-- ==== Sys2Proof/Word.lean ====
section
/-! DEFINITION. The widths of the family-computer CORE: bytes, CPU addresses, PPU scroll registers
(spec/00_scope.md rules R6 and R8). -/

namespace Sys2Proof

/-- A register or bus byte: 8 bits (rule R6). -/
abbrev Byte := BitVec 8

/-- A CPU address or the program counter: 16 bits (rule R6). -/
abbrev Word := BitVec 16

/-- A PPU bus address: 14 bits (rules R6, R390). -/
abbrev PpuAddr := BitVec 14

/-- A composite scroll register `vram_addr` or `tram_addr`: 15 bits (rules R6, R47). -/
abbrev Scroll := BitVec 15

/-- `hi ++ lo` of rule R8: the high byte first. -/
abbrev hilo (hi lo : Byte) : Word := hi ++ lo

end Sys2Proof
end

