-- ==== Sys2Proof/Syntax.lean ====
section
/-! DEFINITION. The instruction set: one constructor for each of the 227 rows of the opcode table
(spec/30_encoding.md rule R119, spec/opcode_table.json).  A constructor carries the operand bytes of its
format (rule R111): nothing (F1), one byte `d` (F2), or the 16-bit word `w` assembled low byte first (F3).
Constructor names are mnemonic and addressing mode; the unofficial NOP forms and the second SBC immediate
carry their opcode byte, since the table has several rows of one mnemonic and mode. -/

namespace Sys2Proof

/-- The instructions of `6502-NMOS-nodecimal+U76` (rule R2), in the opcode order of rule R119. -/
inductive Instr where
  /-- 0x00 BRK IMP (rule R226). -/
  | brk
  /-- 0x01 ORA IZX (rule R186). -/
  | oraIzx (d : Byte)
  /-- 0x03 SLO IZX, unofficial (rule R266). -/
  | sloIzx (d : Byte)
  /-- 0x04 NOP ZP, unofficial (rule R261). -/
  | nopZp04 (d : Byte)
  /-- 0x05 ORA ZP (rule R186). -/
  | oraZp (d : Byte)
  /-- 0x06 ASL ZP (rule R201). -/
  | aslZp (d : Byte)
  /-- 0x07 SLO ZP, unofficial (rule R266). -/
  | sloZp (d : Byte)
  /-- 0x08 PHP IMP (rule R166). -/
  | php
  /-- 0x09 ORA IMM (rule R186). -/
  | oraImm (d : Byte)
  /-- 0x0A ASL ACC (rule R201). -/
  | aslAcc
  /-- 0x0C NOP ABS, unofficial (rule R261). -/
  | nopAbs0C (w : Word)
  /-- 0x0D ORA ABS (rule R186). -/
  | oraAbs (w : Word)
  /-- 0x0E ASL ABS (rule R201). -/
  | aslAbs (w : Word)
  /-- 0x0F SLO ABS, unofficial (rule R266). -/
  | sloAbs (w : Word)
  /-- 0x10 BPL REL (rule R238). -/
  | bpl (d : Byte)
  /-- 0x11 ORA IZY (rule R186). -/
  | oraIzy (d : Byte)
  /-- 0x13 SLO IZY, unofficial (rule R266). -/
  | sloIzy (d : Byte)
  /-- 0x14 NOP ZPX, unofficial (rule R261). -/
  | nopZpx14 (d : Byte)
  /-- 0x15 ORA ZPX (rule R186). -/
  | oraZpx (d : Byte)
  /-- 0x16 ASL ZPX (rule R201). -/
  | aslZpx (d : Byte)
  /-- 0x17 SLO ZPX, unofficial (rule R266). -/
  | sloZpx (d : Byte)
  /-- 0x18 CLC IMP (rule R241). -/
  | clc
  /-- 0x19 ORA ABY (rule R186). -/
  | oraAby (w : Word)
  /-- 0x1A NOP IMP, unofficial (rule R261). -/
  | nop1A
  /-- 0x1B SLO ABY, unofficial (rule R266). -/
  | sloAby (w : Word)
  /-- 0x1C NOP ABX, unofficial (rule R261). -/
  | nopAbx1C (w : Word)
  /-- 0x1D ORA ABX (rule R186). -/
  | oraAbx (w : Word)
  /-- 0x1E ASL ABX (rule R201). -/
  | aslAbx (w : Word)
  /-- 0x1F SLO ABX, unofficial (rule R266). -/
  | sloAbx (w : Word)
  /-- 0x20 JSR ABS (rule R222). -/
  | jsr (w : Word)
  /-- 0x21 AND IZX (rule R185). -/
  | andIzx (d : Byte)
  /-- 0x23 RLA IZX, unofficial (rule R267). -/
  | rlaIzx (d : Byte)
  /-- 0x24 BIT ZP (rule R192). -/
  | bitZp (d : Byte)
  /-- 0x25 AND ZP (rule R185). -/
  | andZp (d : Byte)
  /-- 0x26 ROL ZP (rule R203). -/
  | rolZp (d : Byte)
  /-- 0x27 RLA ZP, unofficial (rule R267). -/
  | rlaZp (d : Byte)
  /-- 0x28 PLP IMP (rule R168). -/
  | plp
  /-- 0x29 AND IMM (rule R185). -/
  | andImm (d : Byte)
  /-- 0x2A ROL ACC (rule R203). -/
  | rolAcc
  /-- 0x2C BIT ABS (rule R192). -/
  | bitAbs (w : Word)
  /-- 0x2D AND ABS (rule R185). -/
  | andAbs (w : Word)
  /-- 0x2E ROL ABS (rule R203). -/
  | rolAbs (w : Word)
  /-- 0x2F RLA ABS, unofficial (rule R267). -/
  | rlaAbs (w : Word)
  /-- 0x30 BMI REL (rule R237). -/
  | bmi (d : Byte)
  /-- 0x31 AND IZY (rule R185). -/
  | andIzy (d : Byte)
  /-- 0x33 RLA IZY, unofficial (rule R267). -/
  | rlaIzy (d : Byte)
  /-- 0x34 NOP ZPX, unofficial (rule R261). -/
  | nopZpx34 (d : Byte)
  /-- 0x35 AND ZPX (rule R185). -/
  | andZpx (d : Byte)
  /-- 0x36 ROL ZPX (rule R203). -/
  | rolZpx (d : Byte)
  /-- 0x37 RLA ZPX, unofficial (rule R267). -/
  | rlaZpx (d : Byte)
  /-- 0x38 SEC IMP (rule R242). -/
  | sec
  /-- 0x39 AND ABY (rule R185). -/
  | andAby (w : Word)
  /-- 0x3A NOP IMP, unofficial (rule R261). -/
  | nop3A
  /-- 0x3B RLA ABY, unofficial (rule R267). -/
  | rlaAby (w : Word)
  /-- 0x3C NOP ABX, unofficial (rule R261). -/
  | nopAbx3C (w : Word)
  /-- 0x3D AND ABX (rule R185). -/
  | andAbx (w : Word)
  /-- 0x3E ROL ABX (rule R203). -/
  | rolAbx (w : Word)
  /-- 0x3F RLA ABX, unofficial (rule R267). -/
  | rlaAbx (w : Word)
  /-- 0x40 RTI IMP (rule R228). -/
  | rti
  /-- 0x41 EOR IZX (rule R187). -/
  | eorIzx (d : Byte)
  /-- 0x43 SRE IZX, unofficial (rule R268). -/
  | sreIzx (d : Byte)
  /-- 0x44 NOP ZP, unofficial (rule R261). -/
  | nopZp44 (d : Byte)
  /-- 0x45 EOR ZP (rule R187). -/
  | eorZp (d : Byte)
  /-- 0x46 LSR ZP (rule R202). -/
  | lsrZp (d : Byte)
  /-- 0x47 SRE ZP, unofficial (rule R268). -/
  | sreZp (d : Byte)
  /-- 0x48 PHA IMP (rule R165). -/
  | pha
  /-- 0x49 EOR IMM (rule R187). -/
  | eorImm (d : Byte)
  /-- 0x4A LSR ACC (rule R202). -/
  | lsrAcc
  /-- 0x4C JMP ABS (rule R221). -/
  | jmpAbs (w : Word)
  /-- 0x4D EOR ABS (rule R187). -/
  | eorAbs (w : Word)
  /-- 0x4E LSR ABS (rule R202). -/
  | lsrAbs (w : Word)
  /-- 0x4F SRE ABS, unofficial (rule R268). -/
  | sreAbs (w : Word)
  /-- 0x50 BVC REL (rule R239). -/
  | bvc (d : Byte)
  /-- 0x51 EOR IZY (rule R187). -/
  | eorIzy (d : Byte)
  /-- 0x53 SRE IZY, unofficial (rule R268). -/
  | sreIzy (d : Byte)
  /-- 0x54 NOP ZPX, unofficial (rule R261). -/
  | nopZpx54 (d : Byte)
  /-- 0x55 EOR ZPX (rule R187). -/
  | eorZpx (d : Byte)
  /-- 0x56 LSR ZPX (rule R202). -/
  | lsrZpx (d : Byte)
  /-- 0x57 SRE ZPX, unofficial (rule R268). -/
  | sreZpx (d : Byte)
  /-- 0x58 CLI IMP (rule R243). -/
  | cli
  /-- 0x59 EOR ABY (rule R187). -/
  | eorAby (w : Word)
  /-- 0x5A NOP IMP, unofficial (rule R261). -/
  | nop5A
  /-- 0x5B SRE ABY, unofficial (rule R268). -/
  | sreAby (w : Word)
  /-- 0x5C NOP ABX, unofficial (rule R261). -/
  | nopAbx5C (w : Word)
  /-- 0x5D EOR ABX (rule R187). -/
  | eorAbx (w : Word)
  /-- 0x5E LSR ABX (rule R202). -/
  | lsrAbx (w : Word)
  /-- 0x5F SRE ABX, unofficial (rule R268). -/
  | sreAbx (w : Word)
  /-- 0x60 RTS IMP (rule R223). -/
  | rts
  /-- 0x61 ADC IZX (rule R183). -/
  | adcIzx (d : Byte)
  /-- 0x63 RRA IZX, unofficial (rule R269). -/
  | rraIzx (d : Byte)
  /-- 0x64 NOP ZP, unofficial (rule R261). -/
  | nopZp64 (d : Byte)
  /-- 0x65 ADC ZP (rule R183). -/
  | adcZp (d : Byte)
  /-- 0x66 ROR ZP (rule R204). -/
  | rorZp (d : Byte)
  /-- 0x67 RRA ZP, unofficial (rule R269). -/
  | rraZp (d : Byte)
  /-- 0x68 PLA IMP (rule R167). -/
  | pla
  /-- 0x69 ADC IMM (rule R183). -/
  | adcImm (d : Byte)
  /-- 0x6A ROR ACC (rule R204). -/
  | rorAcc
  /-- 0x6C JMP IND (rule R221). -/
  | jmpInd (w : Word)
  /-- 0x6D ADC ABS (rule R183). -/
  | adcAbs (w : Word)
  /-- 0x6E ROR ABS (rule R204). -/
  | rorAbs (w : Word)
  /-- 0x6F RRA ABS, unofficial (rule R269). -/
  | rraAbs (w : Word)
  /-- 0x70 BVS REL (rule R240). -/
  | bvs (d : Byte)
  /-- 0x71 ADC IZY (rule R183). -/
  | adcIzy (d : Byte)
  /-- 0x73 RRA IZY, unofficial (rule R269). -/
  | rraIzy (d : Byte)
  /-- 0x74 NOP ZPX, unofficial (rule R261). -/
  | nopZpx74 (d : Byte)
  /-- 0x75 ADC ZPX (rule R183). -/
  | adcZpx (d : Byte)
  /-- 0x76 ROR ZPX (rule R204). -/
  | rorZpx (d : Byte)
  /-- 0x77 RRA ZPX, unofficial (rule R269). -/
  | rraZpx (d : Byte)
  /-- 0x78 SEI IMP (rule R244). -/
  | sei
  /-- 0x79 ADC ABY (rule R183). -/
  | adcAby (w : Word)
  /-- 0x7A NOP IMP, unofficial (rule R261). -/
  | nop7A
  /-- 0x7B RRA ABY, unofficial (rule R269). -/
  | rraAby (w : Word)
  /-- 0x7C NOP ABX, unofficial (rule R261). -/
  | nopAbx7C (w : Word)
  /-- 0x7D ADC ABX (rule R183). -/
  | adcAbx (w : Word)
  /-- 0x7E ROR ABX (rule R204). -/
  | rorAbx (w : Word)
  /-- 0x7F RRA ABX, unofficial (rule R269). -/
  | rraAbx (w : Word)
  /-- 0x80 NOP IMM, unofficial (rule R261). -/
  | nopImm80 (d : Byte)
  /-- 0x81 STA IZX (rule R154). -/
  | staIzx (d : Byte)
  /-- 0x83 SAX IZX, unofficial (rule R263). -/
  | saxIzx (d : Byte)
  /-- 0x84 STY ZP (rule R156). -/
  | styZp (d : Byte)
  /-- 0x85 STA ZP (rule R154). -/
  | staZp (d : Byte)
  /-- 0x86 STX ZP (rule R155). -/
  | stxZp (d : Byte)
  /-- 0x87 SAX ZP, unofficial (rule R263). -/
  | saxZp (d : Byte)
  /-- 0x88 DEY IMP (rule R210). -/
  | dey
  /-- 0x8A TXA IMP (rule R159). -/
  | txa
  /-- 0x8C STY ABS (rule R156). -/
  | styAbs (w : Word)
  /-- 0x8D STA ABS (rule R154). -/
  | staAbs (w : Word)
  /-- 0x8E STX ABS (rule R155). -/
  | stxAbs (w : Word)
  /-- 0x8F SAX ABS, unofficial (rule R263). -/
  | saxAbs (w : Word)
  /-- 0x90 BCC REL (rule R233). -/
  | bcc (d : Byte)
  /-- 0x91 STA IZY (rule R154). -/
  | staIzy (d : Byte)
  /-- 0x94 STY ZPX (rule R156). -/
  | styZpx (d : Byte)
  /-- 0x95 STA ZPX (rule R154). -/
  | staZpx (d : Byte)
  /-- 0x96 STX ZPY (rule R155). -/
  | stxZpy (d : Byte)
  /-- 0x97 SAX ZPY, unofficial (rule R263). -/
  | saxZpy (d : Byte)
  /-- 0x98 TYA IMP (rule R160). -/
  | tya
  /-- 0x99 STA ABY (rule R154). -/
  | staAby (w : Word)
  /-- 0x9A TXS IMP (rule R162). -/
  | txs
  /-- 0x9D STA ABX (rule R154). -/
  | staAbx (w : Word)
  /-- 0xA0 LDY IMM (rule R153). -/
  | ldyImm (d : Byte)
  /-- 0xA1 LDA IZX (rule R151). -/
  | ldaIzx (d : Byte)
  /-- 0xA2 LDX IMM (rule R152). -/
  | ldxImm (d : Byte)
  /-- 0xA3 LAX IZX, unofficial (rule R262). -/
  | laxIzx (d : Byte)
  /-- 0xA4 LDY ZP (rule R153). -/
  | ldyZp (d : Byte)
  /-- 0xA5 LDA ZP (rule R151). -/
  | ldaZp (d : Byte)
  /-- 0xA6 LDX ZP (rule R152). -/
  | ldxZp (d : Byte)
  /-- 0xA7 LAX ZP, unofficial (rule R262). -/
  | laxZp (d : Byte)
  /-- 0xA8 TAY IMP (rule R158). -/
  | tay
  /-- 0xA9 LDA IMM (rule R151). -/
  | ldaImm (d : Byte)
  /-- 0xAA TAX IMP (rule R157). -/
  | tax
  /-- 0xAC LDY ABS (rule R153). -/
  | ldyAbs (w : Word)
  /-- 0xAD LDA ABS (rule R151). -/
  | ldaAbs (w : Word)
  /-- 0xAE LDX ABS (rule R152). -/
  | ldxAbs (w : Word)
  /-- 0xAF LAX ABS, unofficial (rule R262). -/
  | laxAbs (w : Word)
  /-- 0xB0 BCS REL (rule R234). -/
  | bcs (d : Byte)
  /-- 0xB1 LDA IZY (rule R151). -/
  | ldaIzy (d : Byte)
  /-- 0xB3 LAX IZY, unofficial (rule R262). -/
  | laxIzy (d : Byte)
  /-- 0xB4 LDY ZPX (rule R153). -/
  | ldyZpx (d : Byte)
  /-- 0xB5 LDA ZPX (rule R151). -/
  | ldaZpx (d : Byte)
  /-- 0xB6 LDX ZPY (rule R152). -/
  | ldxZpy (d : Byte)
  /-- 0xB7 LAX ZPY, unofficial (rule R262). -/
  | laxZpy (d : Byte)
  /-- 0xB8 CLV IMP (rule R245). -/
  | clv
  /-- 0xB9 LDA ABY (rule R151). -/
  | ldaAby (w : Word)
  /-- 0xBA TSX IMP (rule R161). -/
  | tsx
  /-- 0xBC LDY ABX (rule R153). -/
  | ldyAbx (w : Word)
  /-- 0xBD LDA ABX (rule R151). -/
  | ldaAbx (w : Word)
  /-- 0xBE LDX ABY (rule R152). -/
  | ldxAby (w : Word)
  /-- 0xBF LAX ABY, unofficial (rule R262). -/
  | laxAby (w : Word)
  /-- 0xC0 CPY IMM (rule R191). -/
  | cpyImm (d : Byte)
  /-- 0xC1 CMP IZX (rule R189). -/
  | cmpIzx (d : Byte)
  /-- 0xC3 DCP IZX, unofficial (rule R270). -/
  | dcpIzx (d : Byte)
  /-- 0xC4 CPY ZP (rule R191). -/
  | cpyZp (d : Byte)
  /-- 0xC5 CMP ZP (rule R189). -/
  | cmpZp (d : Byte)
  /-- 0xC6 DEC ZP (rule R206). -/
  | decZp (d : Byte)
  /-- 0xC7 DCP ZP, unofficial (rule R270). -/
  | dcpZp (d : Byte)
  /-- 0xC8 INY IMP (rule R208). -/
  | iny
  /-- 0xC9 CMP IMM (rule R189). -/
  | cmpImm (d : Byte)
  /-- 0xCA DEX IMP (rule R209). -/
  | dex
  /-- 0xCC CPY ABS (rule R191). -/
  | cpyAbs (w : Word)
  /-- 0xCD CMP ABS (rule R189). -/
  | cmpAbs (w : Word)
  /-- 0xCE DEC ABS (rule R206). -/
  | decAbs (w : Word)
  /-- 0xCF DCP ABS, unofficial (rule R270). -/
  | dcpAbs (w : Word)
  /-- 0xD0 BNE REL (rule R236). -/
  | bne (d : Byte)
  /-- 0xD1 CMP IZY (rule R189). -/
  | cmpIzy (d : Byte)
  /-- 0xD3 DCP IZY, unofficial (rule R270). -/
  | dcpIzy (d : Byte)
  /-- 0xD4 NOP ZPX, unofficial (rule R261). -/
  | nopZpxD4 (d : Byte)
  /-- 0xD5 CMP ZPX (rule R189). -/
  | cmpZpx (d : Byte)
  /-- 0xD6 DEC ZPX (rule R206). -/
  | decZpx (d : Byte)
  /-- 0xD7 DCP ZPX, unofficial (rule R270). -/
  | dcpZpx (d : Byte)
  /-- 0xD8 CLD IMP (rule R246). -/
  | cld
  /-- 0xD9 CMP ABY (rule R189). -/
  | cmpAby (w : Word)
  /-- 0xDA NOP IMP, unofficial (rule R261). -/
  | nopDA
  /-- 0xDB DCP ABY, unofficial (rule R270). -/
  | dcpAby (w : Word)
  /-- 0xDC NOP ABX, unofficial (rule R261). -/
  | nopAbxDC (w : Word)
  /-- 0xDD CMP ABX (rule R189). -/
  | cmpAbx (w : Word)
  /-- 0xDE DEC ABX (rule R206). -/
  | decAbx (w : Word)
  /-- 0xDF DCP ABX, unofficial (rule R270). -/
  | dcpAbx (w : Word)
  /-- 0xE0 CPX IMM (rule R190). -/
  | cpxImm (d : Byte)
  /-- 0xE1 SBC IZX (rule R184). -/
  | sbcIzx (d : Byte)
  /-- 0xE3 ISB IZX, unofficial (rule R271). -/
  | isbIzx (d : Byte)
  /-- 0xE4 CPX ZP (rule R190). -/
  | cpxZp (d : Byte)
  /-- 0xE5 SBC ZP (rule R184). -/
  | sbcZp (d : Byte)
  /-- 0xE6 INC ZP (rule R205). -/
  | incZp (d : Byte)
  /-- 0xE7 ISB ZP, unofficial (rule R271). -/
  | isbZp (d : Byte)
  /-- 0xE8 INX IMP (rule R207). -/
  | inx
  /-- 0xE9 SBC IMM (rule R184). -/
  | sbcImm (d : Byte)
  /-- 0xEA NOP IMP (rule R248). -/
  | nop
  /-- 0xEB SBC IMM, unofficial (rule R264). -/
  | sbcImmEB (d : Byte)
  /-- 0xEC CPX ABS (rule R190). -/
  | cpxAbs (w : Word)
  /-- 0xED SBC ABS (rule R184). -/
  | sbcAbs (w : Word)
  /-- 0xEE INC ABS (rule R205). -/
  | incAbs (w : Word)
  /-- 0xEF ISB ABS, unofficial (rule R271). -/
  | isbAbs (w : Word)
  /-- 0xF0 BEQ REL (rule R235). -/
  | beq (d : Byte)
  /-- 0xF1 SBC IZY (rule R184). -/
  | sbcIzy (d : Byte)
  /-- 0xF3 ISB IZY, unofficial (rule R271). -/
  | isbIzy (d : Byte)
  /-- 0xF4 NOP ZPX, unofficial (rule R261). -/
  | nopZpxF4 (d : Byte)
  /-- 0xF5 SBC ZPX (rule R184). -/
  | sbcZpx (d : Byte)
  /-- 0xF6 INC ZPX (rule R205). -/
  | incZpx (d : Byte)
  /-- 0xF7 ISB ZPX, unofficial (rule R271). -/
  | isbZpx (d : Byte)
  /-- 0xF8 SED IMP (rule R247). -/
  | sed
  /-- 0xF9 SBC ABY (rule R184). -/
  | sbcAby (w : Word)
  /-- 0xFA NOP IMP, unofficial (rule R261). -/
  | nopFA
  /-- 0xFB ISB ABY, unofficial (rule R271). -/
  | isbAby (w : Word)
  /-- 0xFC NOP ABX, unofficial (rule R261). -/
  | nopAbxFC (w : Word)
  /-- 0xFD SBC ABX (rule R184). -/
  | sbcAbx (w : Word)
  /-- 0xFE INC ABX (rule R205). -/
  | incAbx (w : Word)
  /-- 0xFF ISB ABX, unofficial (rule R271). -/
  | isbAbx (w : Word)
  deriving DecidableEq, Repr

end Sys2Proof
end

