-- ==== Sys2Proof/Decode.lean ====
section
/-! DEFINITION. The decoder and the encoder (spec/30_encoding.md rules R110 to R119, R132).  Decode is the
direct 256-entry opcode table of rule R112, written as the opcode matrix of rule R116: sixteen rows of
sixteen entries, row by high nibble, column by low nibble.  `decode` is total on any bytes and rejects by
name.  `encode` is written from rule R119 on its own, not by inverting the decoder. -/

namespace Sys2Proof

/-- Why bytes are not an instruction. -/
inductive DecodeError where
  /-- The opcode byte is one of the 29 bytes with no row in rule R119 (rule R132). -/
  | undefinedOpcode (op : Byte)
  /-- The list of bytes ends before the instruction does.  The machine's fetch never meets this: it reads
  as many bytes as the opcode byte asks for (rule R110). -/
  | truncated
  deriving DecidableEq, Repr

/-- One entry of the opcode matrix: the format of rule R111 with the instruction it builds, or an undefined
byte of rule R132. -/
inductive Entry where
  /-- No row in rule R119 (rule R132). -/
  | none
  /-- Format F1: the opcode byte alone. -/
  | f1 (i : Instr)
  /-- Format F2: one operand byte `d8`. -/
  | f2 (f : Byte → Instr)
  /-- Format F3: a 16-bit operand `a16`, low byte first (rules R80, R111). -/
  | f3 (f : Word → Instr)

/-- Matrix row 0x of rule R116. -/
def matrixRow0 : List Entry :=
  [.f1 .brk, .f2 .oraIzx, .none, .f2 .sloIzx,
   .f2 .nopZp04, .f2 .oraZp, .f2 .aslZp, .f2 .sloZp,
   .f1 .php, .f2 .oraImm, .f1 .aslAcc, .none,
   .f3 .nopAbs0C, .f3 .oraAbs, .f3 .aslAbs, .f3 .sloAbs]

/-- Matrix row 1x of rule R116. -/
def matrixRow1 : List Entry :=
  [.f2 .bpl, .f2 .oraIzy, .none, .f2 .sloIzy,
   .f2 .nopZpx14, .f2 .oraZpx, .f2 .aslZpx, .f2 .sloZpx,
   .f1 .clc, .f3 .oraAby, .f1 .nop1A, .f3 .sloAby,
   .f3 .nopAbx1C, .f3 .oraAbx, .f3 .aslAbx, .f3 .sloAbx]

/-- Matrix row 2x of rule R116. -/
def matrixRow2 : List Entry :=
  [.f3 .jsr, .f2 .andIzx, .none, .f2 .rlaIzx,
   .f2 .bitZp, .f2 .andZp, .f2 .rolZp, .f2 .rlaZp,
   .f1 .plp, .f2 .andImm, .f1 .rolAcc, .none,
   .f3 .bitAbs, .f3 .andAbs, .f3 .rolAbs, .f3 .rlaAbs]

/-- Matrix row 3x of rule R116. -/
def matrixRow3 : List Entry :=
  [.f2 .bmi, .f2 .andIzy, .none, .f2 .rlaIzy,
   .f2 .nopZpx34, .f2 .andZpx, .f2 .rolZpx, .f2 .rlaZpx,
   .f1 .sec, .f3 .andAby, .f1 .nop3A, .f3 .rlaAby,
   .f3 .nopAbx3C, .f3 .andAbx, .f3 .rolAbx, .f3 .rlaAbx]

/-- Matrix row 4x of rule R116. -/
def matrixRow4 : List Entry :=
  [.f1 .rti, .f2 .eorIzx, .none, .f2 .sreIzx,
   .f2 .nopZp44, .f2 .eorZp, .f2 .lsrZp, .f2 .sreZp,
   .f1 .pha, .f2 .eorImm, .f1 .lsrAcc, .none,
   .f3 .jmpAbs, .f3 .eorAbs, .f3 .lsrAbs, .f3 .sreAbs]

/-- Matrix row 5x of rule R116. -/
def matrixRow5 : List Entry :=
  [.f2 .bvc, .f2 .eorIzy, .none, .f2 .sreIzy,
   .f2 .nopZpx54, .f2 .eorZpx, .f2 .lsrZpx, .f2 .sreZpx,
   .f1 .cli, .f3 .eorAby, .f1 .nop5A, .f3 .sreAby,
   .f3 .nopAbx5C, .f3 .eorAbx, .f3 .lsrAbx, .f3 .sreAbx]

/-- Matrix row 6x of rule R116. -/
def matrixRow6 : List Entry :=
  [.f1 .rts, .f2 .adcIzx, .none, .f2 .rraIzx,
   .f2 .nopZp64, .f2 .adcZp, .f2 .rorZp, .f2 .rraZp,
   .f1 .pla, .f2 .adcImm, .f1 .rorAcc, .none,
   .f3 .jmpInd, .f3 .adcAbs, .f3 .rorAbs, .f3 .rraAbs]

/-- Matrix row 7x of rule R116. -/
def matrixRow7 : List Entry :=
  [.f2 .bvs, .f2 .adcIzy, .none, .f2 .rraIzy,
   .f2 .nopZpx74, .f2 .adcZpx, .f2 .rorZpx, .f2 .rraZpx,
   .f1 .sei, .f3 .adcAby, .f1 .nop7A, .f3 .rraAby,
   .f3 .nopAbx7C, .f3 .adcAbx, .f3 .rorAbx, .f3 .rraAbx]

/-- Matrix row 8x of rule R116. -/
def matrixRow8 : List Entry :=
  [.f2 .nopImm80, .f2 .staIzx, .none, .f2 .saxIzx,
   .f2 .styZp, .f2 .staZp, .f2 .stxZp, .f2 .saxZp,
   .f1 .dey, .none, .f1 .txa, .none,
   .f3 .styAbs, .f3 .staAbs, .f3 .stxAbs, .f3 .saxAbs]

/-- Matrix row 9x of rule R116. -/
def matrixRow9 : List Entry :=
  [.f2 .bcc, .f2 .staIzy, .none, .none,
   .f2 .styZpx, .f2 .staZpx, .f2 .stxZpy, .f2 .saxZpy,
   .f1 .tya, .f3 .staAby, .f1 .txs, .none,
   .none, .f3 .staAbx, .none, .none]

/-- Matrix row Ax of rule R116. -/
def matrixRowA : List Entry :=
  [.f2 .ldyImm, .f2 .ldaIzx, .f2 .ldxImm, .f2 .laxIzx,
   .f2 .ldyZp, .f2 .ldaZp, .f2 .ldxZp, .f2 .laxZp,
   .f1 .tay, .f2 .ldaImm, .f1 .tax, .none,
   .f3 .ldyAbs, .f3 .ldaAbs, .f3 .ldxAbs, .f3 .laxAbs]

/-- Matrix row Bx of rule R116. -/
def matrixRowB : List Entry :=
  [.f2 .bcs, .f2 .ldaIzy, .none, .f2 .laxIzy,
   .f2 .ldyZpx, .f2 .ldaZpx, .f2 .ldxZpy, .f2 .laxZpy,
   .f1 .clv, .f3 .ldaAby, .f1 .tsx, .none,
   .f3 .ldyAbx, .f3 .ldaAbx, .f3 .ldxAby, .f3 .laxAby]

/-- Matrix row Cx of rule R116. -/
def matrixRowC : List Entry :=
  [.f2 .cpyImm, .f2 .cmpIzx, .none, .f2 .dcpIzx,
   .f2 .cpyZp, .f2 .cmpZp, .f2 .decZp, .f2 .dcpZp,
   .f1 .iny, .f2 .cmpImm, .f1 .dex, .none,
   .f3 .cpyAbs, .f3 .cmpAbs, .f3 .decAbs, .f3 .dcpAbs]

/-- Matrix row Dx of rule R116. -/
def matrixRowD : List Entry :=
  [.f2 .bne, .f2 .cmpIzy, .none, .f2 .dcpIzy,
   .f2 .nopZpxD4, .f2 .cmpZpx, .f2 .decZpx, .f2 .dcpZpx,
   .f1 .cld, .f3 .cmpAby, .f1 .nopDA, .f3 .dcpAby,
   .f3 .nopAbxDC, .f3 .cmpAbx, .f3 .decAbx, .f3 .dcpAbx]

/-- Matrix row Ex of rule R116. -/
def matrixRowE : List Entry :=
  [.f2 .cpxImm, .f2 .sbcIzx, .none, .f2 .isbIzx,
   .f2 .cpxZp, .f2 .sbcZp, .f2 .incZp, .f2 .isbZp,
   .f1 .inx, .f2 .sbcImm, .f1 .nop, .f2 .sbcImmEB,
   .f3 .cpxAbs, .f3 .sbcAbs, .f3 .incAbs, .f3 .isbAbs]

/-- Matrix row Fx of rule R116. -/
def matrixRowF : List Entry :=
  [.f2 .beq, .f2 .sbcIzy, .none, .f2 .isbIzy,
   .f2 .nopZpxF4, .f2 .sbcZpx, .f2 .incZpx, .f2 .isbZpx,
   .f1 .sed, .f3 .sbcAby, .f1 .nopFA, .f3 .isbAby,
   .f3 .nopAbxFC, .f3 .sbcAbx, .f3 .incAbx, .f3 .isbAbx]

/-- The opcode matrix of rule R116. -/
def matrix : List (List Entry) :=
  [matrixRow0, matrixRow1, matrixRow2, matrixRow3, matrixRow4, matrixRow5, matrixRow6, matrixRow7] ++
  [matrixRow8, matrixRow9, matrixRowA, matrixRowB, matrixRowC, matrixRowD, matrixRowE, matrixRowF]

/-- `OPTABLE[op]` of rule R114: the entry at row `op / 16`, column `op mod 16`. -/
def entryOf (op : Byte) : Entry :=
  (matrix.getD (op.toNat / 16) []).getD (op.toNat % 16) .none

/-- How many operand bytes follow the opcode byte (rule R110); 0 for an undefined byte, where fetch stops. -/
def operandCount (op : Byte) : Nat :=
  match entryOf op with
  | .none => 0
  | .f1 _ => 0
  | .f2 _ => 1
  | .f3 _ => 2

/-- `a16 = byte2 ++ byte1` (rules R111, R113): the low byte comes first in memory. -/
def assemble16 (byte1 byte2 : Byte) : Word := hilo byte2 byte1

/-- Decode the instruction at the head of a list of bytes and give the bytes after it (rules R110 to R114). -/
def decode : List Byte → Except DecodeError (Instr × List Byte)
  | [] => .error .truncated
  | op :: rest =>
    match entryOf op, rest with
    | .none, _ => .error (.undefinedOpcode op)
    | .f1 i, rest => .ok (i, rest)
    | .f2 f, d :: rest => .ok (f d, rest)
    | .f3 f, b1 :: b2 :: rest => .ok (f (assemble16 b1 b2), rest)
    | .f2 _, [] => .error .truncated
    | .f3 _, [] => .error .truncated
    | .f3 _, [_] => .error .truncated

/-- Low byte of a 16-bit operand. -/
def lowByte (w : Word) : Byte := w.extractLsb' 0 8

/-- High byte of a 16-bit operand. -/
def highByte (w : Word) : Byte := w.extractLsb' 8 8

/-- The bytes of an instruction, in ascending address order (rules R111, R119). -/
def encode : Instr → List Byte
  | .brk => [0x00]
  | .oraIzx d => [0x01, d]
  | .sloIzx d => [0x03, d]
  | .nopZp04 d => [0x04, d]
  | .oraZp d => [0x05, d]
  | .aslZp d => [0x06, d]
  | .sloZp d => [0x07, d]
  | .php => [0x08]
  | .oraImm d => [0x09, d]
  | .aslAcc => [0x0A]
  | .nopAbs0C w => [0x0C, lowByte w, highByte w]
  | .oraAbs w => [0x0D, lowByte w, highByte w]
  | .aslAbs w => [0x0E, lowByte w, highByte w]
  | .sloAbs w => [0x0F, lowByte w, highByte w]
  | .bpl d => [0x10, d]
  | .oraIzy d => [0x11, d]
  | .sloIzy d => [0x13, d]
  | .nopZpx14 d => [0x14, d]
  | .oraZpx d => [0x15, d]
  | .aslZpx d => [0x16, d]
  | .sloZpx d => [0x17, d]
  | .clc => [0x18]
  | .oraAby w => [0x19, lowByte w, highByte w]
  | .nop1A => [0x1A]
  | .sloAby w => [0x1B, lowByte w, highByte w]
  | .nopAbx1C w => [0x1C, lowByte w, highByte w]
  | .oraAbx w => [0x1D, lowByte w, highByte w]
  | .aslAbx w => [0x1E, lowByte w, highByte w]
  | .sloAbx w => [0x1F, lowByte w, highByte w]
  | .jsr w => [0x20, lowByte w, highByte w]
  | .andIzx d => [0x21, d]
  | .rlaIzx d => [0x23, d]
  | .bitZp d => [0x24, d]
  | .andZp d => [0x25, d]
  | .rolZp d => [0x26, d]
  | .rlaZp d => [0x27, d]
  | .plp => [0x28]
  | .andImm d => [0x29, d]
  | .rolAcc => [0x2A]
  | .bitAbs w => [0x2C, lowByte w, highByte w]
  | .andAbs w => [0x2D, lowByte w, highByte w]
  | .rolAbs w => [0x2E, lowByte w, highByte w]
  | .rlaAbs w => [0x2F, lowByte w, highByte w]
  | .bmi d => [0x30, d]
  | .andIzy d => [0x31, d]
  | .rlaIzy d => [0x33, d]
  | .nopZpx34 d => [0x34, d]
  | .andZpx d => [0x35, d]
  | .rolZpx d => [0x36, d]
  | .rlaZpx d => [0x37, d]
  | .sec => [0x38]
  | .andAby w => [0x39, lowByte w, highByte w]
  | .nop3A => [0x3A]
  | .rlaAby w => [0x3B, lowByte w, highByte w]
  | .nopAbx3C w => [0x3C, lowByte w, highByte w]
  | .andAbx w => [0x3D, lowByte w, highByte w]
  | .rolAbx w => [0x3E, lowByte w, highByte w]
  | .rlaAbx w => [0x3F, lowByte w, highByte w]
  | .rti => [0x40]
  | .eorIzx d => [0x41, d]
  | .sreIzx d => [0x43, d]
  | .nopZp44 d => [0x44, d]
  | .eorZp d => [0x45, d]
  | .lsrZp d => [0x46, d]
  | .sreZp d => [0x47, d]
  | .pha => [0x48]
  | .eorImm d => [0x49, d]
  | .lsrAcc => [0x4A]
  | .jmpAbs w => [0x4C, lowByte w, highByte w]
  | .eorAbs w => [0x4D, lowByte w, highByte w]
  | .lsrAbs w => [0x4E, lowByte w, highByte w]
  | .sreAbs w => [0x4F, lowByte w, highByte w]
  | .bvc d => [0x50, d]
  | .eorIzy d => [0x51, d]
  | .sreIzy d => [0x53, d]
  | .nopZpx54 d => [0x54, d]
  | .eorZpx d => [0x55, d]
  | .lsrZpx d => [0x56, d]
  | .sreZpx d => [0x57, d]
  | .cli => [0x58]
  | .eorAby w => [0x59, lowByte w, highByte w]
  | .nop5A => [0x5A]
  | .sreAby w => [0x5B, lowByte w, highByte w]
  | .nopAbx5C w => [0x5C, lowByte w, highByte w]
  | .eorAbx w => [0x5D, lowByte w, highByte w]
  | .lsrAbx w => [0x5E, lowByte w, highByte w]
  | .sreAbx w => [0x5F, lowByte w, highByte w]
  | .rts => [0x60]
  | .adcIzx d => [0x61, d]
  | .rraIzx d => [0x63, d]
  | .nopZp64 d => [0x64, d]
  | .adcZp d => [0x65, d]
  | .rorZp d => [0x66, d]
  | .rraZp d => [0x67, d]
  | .pla => [0x68]
  | .adcImm d => [0x69, d]
  | .rorAcc => [0x6A]
  | .jmpInd w => [0x6C, lowByte w, highByte w]
  | .adcAbs w => [0x6D, lowByte w, highByte w]
  | .rorAbs w => [0x6E, lowByte w, highByte w]
  | .rraAbs w => [0x6F, lowByte w, highByte w]
  | .bvs d => [0x70, d]
  | .adcIzy d => [0x71, d]
  | .rraIzy d => [0x73, d]
  | .nopZpx74 d => [0x74, d]
  | .adcZpx d => [0x75, d]
  | .rorZpx d => [0x76, d]
  | .rraZpx d => [0x77, d]
  | .sei => [0x78]
  | .adcAby w => [0x79, lowByte w, highByte w]
  | .nop7A => [0x7A]
  | .rraAby w => [0x7B, lowByte w, highByte w]
  | .nopAbx7C w => [0x7C, lowByte w, highByte w]
  | .adcAbx w => [0x7D, lowByte w, highByte w]
  | .rorAbx w => [0x7E, lowByte w, highByte w]
  | .rraAbx w => [0x7F, lowByte w, highByte w]
  | .nopImm80 d => [0x80, d]
  | .staIzx d => [0x81, d]
  | .saxIzx d => [0x83, d]
  | .styZp d => [0x84, d]
  | .staZp d => [0x85, d]
  | .stxZp d => [0x86, d]
  | .saxZp d => [0x87, d]
  | .dey => [0x88]
  | .txa => [0x8A]
  | .styAbs w => [0x8C, lowByte w, highByte w]
  | .staAbs w => [0x8D, lowByte w, highByte w]
  | .stxAbs w => [0x8E, lowByte w, highByte w]
  | .saxAbs w => [0x8F, lowByte w, highByte w]
  | .bcc d => [0x90, d]
  | .staIzy d => [0x91, d]
  | .styZpx d => [0x94, d]
  | .staZpx d => [0x95, d]
  | .stxZpy d => [0x96, d]
  | .saxZpy d => [0x97, d]
  | .tya => [0x98]
  | .staAby w => [0x99, lowByte w, highByte w]
  | .txs => [0x9A]
  | .staAbx w => [0x9D, lowByte w, highByte w]
  | .ldyImm d => [0xA0, d]
  | .ldaIzx d => [0xA1, d]
  | .ldxImm d => [0xA2, d]
  | .laxIzx d => [0xA3, d]
  | .ldyZp d => [0xA4, d]
  | .ldaZp d => [0xA5, d]
  | .ldxZp d => [0xA6, d]
  | .laxZp d => [0xA7, d]
  | .tay => [0xA8]
  | .ldaImm d => [0xA9, d]
  | .tax => [0xAA]
  | .ldyAbs w => [0xAC, lowByte w, highByte w]
  | .ldaAbs w => [0xAD, lowByte w, highByte w]
  | .ldxAbs w => [0xAE, lowByte w, highByte w]
  | .laxAbs w => [0xAF, lowByte w, highByte w]
  | .bcs d => [0xB0, d]
  | .ldaIzy d => [0xB1, d]
  | .laxIzy d => [0xB3, d]
  | .ldyZpx d => [0xB4, d]
  | .ldaZpx d => [0xB5, d]
  | .ldxZpy d => [0xB6, d]
  | .laxZpy d => [0xB7, d]
  | .clv => [0xB8]
  | .ldaAby w => [0xB9, lowByte w, highByte w]
  | .tsx => [0xBA]
  | .ldyAbx w => [0xBC, lowByte w, highByte w]
  | .ldaAbx w => [0xBD, lowByte w, highByte w]
  | .ldxAby w => [0xBE, lowByte w, highByte w]
  | .laxAby w => [0xBF, lowByte w, highByte w]
  | .cpyImm d => [0xC0, d]
  | .cmpIzx d => [0xC1, d]
  | .dcpIzx d => [0xC3, d]
  | .cpyZp d => [0xC4, d]
  | .cmpZp d => [0xC5, d]
  | .decZp d => [0xC6, d]
  | .dcpZp d => [0xC7, d]
  | .iny => [0xC8]
  | .cmpImm d => [0xC9, d]
  | .dex => [0xCA]
  | .cpyAbs w => [0xCC, lowByte w, highByte w]
  | .cmpAbs w => [0xCD, lowByte w, highByte w]
  | .decAbs w => [0xCE, lowByte w, highByte w]
  | .dcpAbs w => [0xCF, lowByte w, highByte w]
  | .bne d => [0xD0, d]
  | .cmpIzy d => [0xD1, d]
  | .dcpIzy d => [0xD3, d]
  | .nopZpxD4 d => [0xD4, d]
  | .cmpZpx d => [0xD5, d]
  | .decZpx d => [0xD6, d]
  | .dcpZpx d => [0xD7, d]
  | .cld => [0xD8]
  | .cmpAby w => [0xD9, lowByte w, highByte w]
  | .nopDA => [0xDA]
  | .dcpAby w => [0xDB, lowByte w, highByte w]
  | .nopAbxDC w => [0xDC, lowByte w, highByte w]
  | .cmpAbx w => [0xDD, lowByte w, highByte w]
  | .decAbx w => [0xDE, lowByte w, highByte w]
  | .dcpAbx w => [0xDF, lowByte w, highByte w]
  | .cpxImm d => [0xE0, d]
  | .sbcIzx d => [0xE1, d]
  | .isbIzx d => [0xE3, d]
  | .cpxZp d => [0xE4, d]
  | .sbcZp d => [0xE5, d]
  | .incZp d => [0xE6, d]
  | .isbZp d => [0xE7, d]
  | .inx => [0xE8]
  | .sbcImm d => [0xE9, d]
  | .nop => [0xEA]
  | .sbcImmEB d => [0xEB, d]
  | .cpxAbs w => [0xEC, lowByte w, highByte w]
  | .sbcAbs w => [0xED, lowByte w, highByte w]
  | .incAbs w => [0xEE, lowByte w, highByte w]
  | .isbAbs w => [0xEF, lowByte w, highByte w]
  | .beq d => [0xF0, d]
  | .sbcIzy d => [0xF1, d]
  | .isbIzy d => [0xF3, d]
  | .nopZpxF4 d => [0xF4, d]
  | .sbcZpx d => [0xF5, d]
  | .incZpx d => [0xF6, d]
  | .isbZpx d => [0xF7, d]
  | .sed => [0xF8]
  | .sbcAby w => [0xF9, lowByte w, highByte w]
  | .nopFA => [0xFA]
  | .isbAby w => [0xFB, lowByte w, highByte w]
  | .nopAbxFC w => [0xFC, lowByte w, highByte w]
  | .sbcAbx w => [0xFD, lowByte w, highByte w]
  | .incAbx w => [0xFE, lowByte w, highByte w]
  | .isbAbx w => [0xFF, lowByte w, highByte w]

/-- The opcode byte of an instruction: byte 0 of its encoding (rule R111). -/
def opcode (i : Instr) : Byte := (encode i).headD 0

/-- The 76 unofficial opcode bytes of rule R118, in the order that rule lists them. -/
def unofficialBytes : List Byte :=
  [0x1A, 0x3A, 0x5A, 0x7A, 0xDA, 0xFA, 0x80, 0x04, 0x44, 0x64, 0x14, 0x34, 0x54, 0x74, 0xD4, 0xF4, 0x0C] ++
  [0x1C, 0x3C, 0x5C, 0x7C, 0xDC, 0xFC, 0xA3, 0xA7, 0xAF, 0xB3, 0xB7, 0xBF, 0x83, 0x87, 0x8F, 0x97, 0xEB] ++
  [0x03, 0x07, 0x0F, 0x13, 0x17, 0x1B, 0x1F, 0x23, 0x27, 0x2F, 0x33, 0x37, 0x3B, 0x3F] ++
  [0x43, 0x47, 0x4F, 0x53, 0x57, 0x5B, 0x5F, 0x63, 0x67, 0x6F, 0x73, 0x77, 0x7B, 0x7F] ++
  [0xC3, 0xC7, 0xCF, 0xD3, 0xD7, 0xDB, 0xDF, 0xE3, 0xE7, 0xEF, 0xF3, 0xF7, 0xFB, 0xFF]

/-- The bytes of an instruction whose bits are `w`, numbered with bit 0 the least significant bit of the
first byte; every bit above `nbits` is 0. -/
def tableBytes (nbits w : Nat) : List Byte :=
  let v := w % 2 ^ nbits
  [BitVec.ofNat 8 v, BitVec.ofNat 8 (v / 256), BitVec.ofNat 8 (v / 65536)]

/-- The instruction the decoder reads from an opcode-table word. -/
def decodeTableWord (nbits w : Nat) : Option Instr :=
  match decode (tableBytes nbits w) with
  | .ok (i, _) => some i
  | .error _ => none

end Sys2Proof
end

