-- ==== Sys2Proof/Config.lean ====
section
/-! DEFINITION. What is fixed for one machine: the fixed parameters of spec/00_scope.md rule R6 as named
constants, the open parameters of rule R7 as the fields of `Config` with the spec's defaults, and the free
values: the contents of the memories at power-on (rule R66, spec/92_eei_decisions.md D3) and the behaviour of an
unspecified cartridge (parameter `Cart`, D2), given by `opaque` constants with no body, so that nothing can be
proved about a particular content or cartridge through them. -/

namespace Sys2Proof

/-- Parameter `PPU_DIV` (rule R7, decision D17): master ticks per PPU tick. -/
inductive PpuDiv where
  /-- One dot per master tick, the default. -/
  | one
  /-- The literal reading of the source. -/
  | three
  deriving DecidableEq, Repr

/-- `PPU_DIV` as a number. -/
def PpuDiv.toNat : PpuDiv → Nat
  | .one => 1
  | .three => 3

/-- Parameter `BgPipeStart` (rules R7, R403): the first cycle of the background pipeline's first range. -/
inductive BgPipeStart where
  /-- The literal reading of the source. -/
  | one
  /-- The corrected value, the default. -/
  | two
  deriving DecidableEq, Repr

/-- `BgPipeStart` as a cycle number. -/
def BgPipeStart.toNat : BgPipeStart → Nat
  | .one => 1
  | .two => 2

/-- Parameter `WarmResetEffect` (rules R7, R502). -/
inductive WarmReset where
  /-- Only what rule R502 lists unconditionally, the default. -/
  | vectorOnly
  /-- Also `S <- S - 3` and `I <- 1`. -/
  | hardware6502
  deriving DecidableEq, Repr

/-- `Cart.mirroring` (rules R74, R392). -/
inductive Mirroring where
  | horizontal
  | vertical
  | singleScreen
  | fourScreen
  deriving DecidableEq, Repr, Inhabited

/-- The open parameters of rule R7 other than `Cart`, the memories' power-on contents and the buttons. -/
structure Config where
  /-- `PPU_DIV`. -/
  ppuDiv : PpuDiv
  /-- `ApuFrameIrqWired`: whether the APU frame interrupt requests a CPU IRQ (rule R307). -/
  frameIrqWired : Bool
  /-- `UnofficialSet`: which unofficial opcode bytes decode (rules R118, R260). -/
  unofficialSet : List Byte
  /-- `ResetWait`: the `wait_cycles` loaded by reset (rule R502). -/
  resetWait : Nat
  /-- `SingleScreenTable`, 0..3 (rule R392). -/
  singleScreenTable : BitVec 2
  /-- `WarmResetEffect` (rule R502). -/
  warmReset : WarmReset
  /-- `BgPipeStart` (rule R403). -/
  bgPipeStart : BgPipeStart
  deriving DecidableEq, Repr

namespace Config

/-- The defaults of rule R7. -/
def standard : Config where
  ppuDiv := .one
  frameIrqWired := true
  unofficialSet := unofficialBytes
  resetWait := 7
  singleScreenTable := 0
  warmReset := .vectorOnly
  bgPipeStart := .two

/-- `CPU_DIV`: master ticks per CPU or DMA step (rule R6). -/
def cpuDiv : Nat := 3
/-- `APU_DIV`: master ticks per APU step (rule R6). -/
def apuDiv : Nat := 6
/-- Wait cycles of an interrupt entry (rules R6, R303). -/
def entryWait : Nat := 6
/-- The power-on stack pointer (rules R6, R21). -/
def powerOnStack : Byte := 0xFD
/-- The last cycle of a scanline (rules R6, R42). -/
def lastCycle : Nat := 340
/-- The last scanline of a frame (rules R6, R42). -/
def lastScanline : Int := 260
/-- Work RAM size in bytes (rule R6). -/
def ramSize : Nat := 2048
/-- Nametable RAM size in bytes (rule R56). -/
def nametableSize : Nat := 4096
/-- Palette RAM size in bytes (rule R56). -/
def paletteSize : Nat := 32
/-- OAM size in bytes (rule R50). -/
def oamSize : Nat := 256
/-- Sprites per scanline (rule R6). -/
def maxSprites : Nat := 8
/-- Frame length in sequencer units, 4-step mode (rules R6, R452). -/
def frameLength4 : Nat := 14915
/-- Frame length in sequencer units, 5-step mode (rules R6, R452). -/
def frameLength5 : Nat := 18641
/-- NMI vector (rule R86). -/
def nmiVector : Word := 0xFFFA
/-- Reset vector (rule R86). -/
def resetVector : Word := 0xFFFC
/-- IRQ and BRK vector (rule R86). -/
def irqVector : Word := 0xFFFE

/-- `RamInit`, `OamInit`, `VramInit` and `PaletteInit` (rules R7, R65, R66): byte `a` of draw `n`, fixed at
power-on and not otherwise known (decision D3; log entry 3). -/
opaque memoryDraw : Nat → Nat → Byte

/-! The interceptor `Cart` of rule R74 where no particular cartridge is given.  Its inside is coded as one
natural number; every function of the interface is an uninterpreted constant, so a statement proved of a
machine with such a cartridge holds whatever the cartridge does (decision D2, behaviour U7). -/

/-- `Cart.cpu_try_read`. -/
opaque mapperCpuRead : Nat → Word → Option Byte
/-- `Cart.cpu_read_effects`. -/
opaque mapperReadEffects : Nat → Word → Nat
/-- `Cart.cpu_write`. -/
opaque mapperCpuWrite : Nat → Word → Byte → Option Nat
/-- `Cart.ppu_try_read`. -/
opaque mapperPpuRead : Nat → PpuAddr → Option Byte
/-- `Cart.ppu_write`. -/
opaque mapperPpuWrite : Nat → PpuAddr → Byte → Option Nat
/-- `Cart.mirroring`. -/
opaque mapperMirroring : Nat → Mirroring
/-- `Cart.irq_pending`. -/
opaque mapperIrqPending : Nat → Bool
/-- `Cart.irq_ack`. -/
opaque mapperIrqAck : Nat → Nat
/-- `Cart.on_scanline(scanline, rendering)`. -/
opaque mapperOnScanline : Nat → Int → Bool → Nat

end Config

end Sys2Proof
end

