-- ==== Sys2Proof/WellFormed.lean ====
section
/-! DEFINITION. What the spec asks of an instruction and of a configuration beyond their types.  Operands
are bit vectors, so every operand value is legal (spec/30_encoding.md rule R111); what can be wrong is an
unofficial instruction on a machine whose `UnofficialSet` leaves it out (rule R260), and a `UnofficialSet`
that is no subset of the 76 bytes of rule R118 (spec/92_eei_decisions.md section 2). -/

namespace Sys2Proof

/-- The instruction's opcode byte is one of the 76 of rule R118. -/
def Instr.isUnofficial (i : Instr) : Bool := unofficialBytes.contains (opcode i)

/-- The machine's table holds this instruction: it is official, or `UnofficialSet` lists it (rule R260). -/
def Instr.wellFormed (cfg : Config) (i : Instr) : Bool :=
  !i.isUnofficial || cfg.unofficialSet.contains (opcode i)

/-- `UnofficialSet` is a subset of the 76 bytes of rule R118 (decision D12). -/
def Config.wellFormed (cfg : Config) : Bool :=
  cfg.unofficialSet.all fun b => unofficialBytes.contains b

end Sys2Proof
end

