-- ==== Sys2Proof/Machine/State.lean ====
section
/-! DEFINITION. The state of the machine: everything spec/10_state.md gives it, as plain data, with the two
outputs of spec/61_clock_dma.md rule R352, the cartridge and the configuration beside it; the one fault
and the refusals; power-on values (rule R65) and the state after reset. -/

namespace Sys2Proof.Machine

/-- What the addresses that no cell lists read as (`Unlisted.byte` in Machine/Mem.lean). -/
inductive Unlisted where
  /-- 0x00: a memory given as data, whose cells are all of it that matters. -/
  | zero
  /-- The free draw `n` fixed at power-on (rule R66; log entry 3). -/
  | draw (n : Nat)
  deriving DecidableEq, Repr

/-- A byte memory: what an unlisted address reads as, and the listed cells, addresses strictly rising, no cell
holding what its address would read as unlisted (`Memory.wf` in Machine/Mem.lean). -/
structure Memory where
  unlisted : Unlisted
  cells : List Host.Cell
  deriving DecidableEq, Repr

/-- The CPU: registers (rules R20 to R22), the seven flags (rules R24 to R32), the countdown and the two
interrupt latches (rules R34 to R36). -/
structure Cpu where
  /-- Accumulator (R20). -/
  a : Byte
  /-- Index X (R20). -/
  x : Byte
  /-- Index Y (R20). -/
  y : Byte
  /-- Stack pointer `S` (R21). -/
  s : Byte
  /-- Program counter (R22). -/
  pc : Word
  /-- Negative (R32). -/
  n : Bool
  /-- Overflow (R31). -/
  v : Bool
  /-- Break (R30). -/
  b : Bool
  /-- Decimal (R29). -/
  d : Bool
  /-- Interrupt-disable (R27). -/
  i : Bool
  /-- Zero (R26). -/
  z : Bool
  /-- Carry (R25). -/
  c : Bool
  /-- `wait_cycles` (R34). -/
  waitCycles : Nat
  /-- `nmi_latch` (R35). -/
  nmiLatch : Bool
  /-- `irq_latch` (R36). -/
  irqLatch : Bool
  deriving DecidableEq, Repr

/-- The OAM DMA unit (rule R40). -/
structure Dma where
  page : Byte
  addr : Byte
  data : Byte
  transfer : Bool
  dummy : Bool
  deriving DecidableEq, Repr

/-- One controller (rules R41, R349). -/
structure Pad where
  /-- The host's button bits: 7 A, 6 B, 5 Select, 4 Start, 3 Up, 2 Down, 1 Left, 0 Right. -/
  buttons : Byte
  shift : Byte
  deriving DecidableEq, Repr

/-- One entry of the per-scanline sprite buffer (rule R53): an OAM entry's four bytes; `x` counts down
(rule R422). -/
structure Sprite where
  y : Byte
  tile : Byte
  attr : Byte
  x : Byte
  deriving DecidableEq, Repr

/-- One sprite pattern shift-register pair (rule R54). -/
structure Lane where
  lo : Byte
  hi : Byte
  deriving DecidableEq, Repr

/-- The PPU (rules R42 to R56). -/
structure Ppu where
  /-- Dot cursor, 0..340 (R42). -/
  cycle : Nat
  /-- Dot cursor, -1..260 (R42). -/
  scanline : Int
  /-- Frame parity (R43). -/
  oddFrame : Bool
  /-- Control register (R44). -/
  ctrl : Byte
  /-- Mask register (R45). -/
  mask : Byte
  /-- Status bit 7 (R46). -/
  vblank : Bool
  /-- Status bit 6 (R46). -/
  spr0Hit : Bool
  /-- Status bit 5 (R46). -/
  sprOverflow : Bool
  /-- Active scroll register (R47). -/
  vramAddr : Scroll
  /-- Shadow scroll register (R47). -/
  tramAddr : Scroll
  /-- Fine-X selector (R47). -/
  fineX : BitVec 3
  /-- Two-write toggle of ports 5 and 6: `false` before the first write (R48). -/
  addrLatch : Bool
  /-- Port 7 read buffer (R49). -/
  dataBuffer : Byte
  /-- OAM, 256 bytes (R50). -/
  oam : Memory
  /-- OAM index of ports 3 and 4 (R50). -/
  oamAddr : Byte
  /-- Background latches (R51). -/
  nextTileId : Byte
  nextTileAttr : Byte
  nextTileLsb : Byte
  nextTileMsb : Byte
  /-- Background shift registers (R52). -/
  bgPatLo : Word
  bgPatHi : Word
  bgAttrLo : Word
  bgAttrHi : Word
  /-- The selected sprites `spr[0 .. spr_count-1]`; `spr_count` is the length (R53). -/
  sprites : List Sprite
  /-- OAM entry 0 is `spr[0]` (R53). -/
  sprZeroSelected : Bool
  /-- The eight sprite pattern lanes (R54). -/
  lanes : List Lane
  /-- The two flags of the status-read race (R55). -/
  statusReadThisTick : Bool
  statusReadLastTick : Bool
  /-- Nametable RAM, 4 × 1 KB (R56). -/
  nametable : Memory
  /-- Palette RAM, 32 bytes (R56). -/
  palette : Memory
  deriving DecidableEq, Repr

/-- A length counter (rule R61); its `halt` is a bit of the channel's control byte. -/
structure Length where
  len : Byte
  enabled : Bool
  deriving DecidableEq, Repr

/-- An envelope (rule R62); `vol`, `const_vol` and `halt` are bits of the channel's control byte. -/
structure Envelope where
  start : Bool
  divider : BitVec 4
  decay : BitVec 4
  output : BitVec 4
  deriving DecidableEq, Repr

/-- A pulse channel (rules R58, R63): the four bytes last written to its registers, of which `duty`, `halt`,
`const_vol`, `vol`, `sw_enabled`, `sw_period`, `sw_negate` and `sw_shift` are views (Machine/Apu.lean); the
timer period, which the sweep unit also writes; the units. -/
structure Pulse where
  control : Byte
  sweep : Byte
  timerLow : Byte
  timerHigh : Byte
  /-- The timer period (R58). -/
  timer : BitVec 11
  length : Length
  envelope : Envelope
  /-- `sw_divider` (R63). -/
  swDivider : BitVec 3
  /-- `sw_reload` (R63). -/
  swReload : Bool
  deriving DecidableEq, Repr

/-- The triangle channel (rule R59): the three bytes last written, of which `control`,
`linear_reload_value` and `timer` are views; the linear counter; the length counter. -/
structure Triangle where
  linear : Byte
  timerLow : Byte
  timerHigh : Byte
  /-- `linear_counter` (R59). -/
  linearCounter : BitVec 7
  /-- `linear_reload` (R59). -/
  linearReload : Bool
  length : Length
  deriving DecidableEq, Repr

/-- The noise channel (rule R60): the three bytes last written, of which `halt`, `const_vol`, `vol`, `mode`
and `period_index` are views; the units. -/
structure Noise where
  control : Byte
  period : Byte
  lengthReg : Byte
  length : Length
  envelope : Envelope
  deriving DecidableEq, Repr

/-- The APU (rules R57 to R63). -/
structure Apu where
  /-- `fc_mode`: `true` is 5-step (R57). -/
  fcMode : Bool
  /-- `fc_irq_inhibit` (R57). -/
  fcIrqInhibit : Bool
  /-- `fc_pos` (R57). -/
  fcPos : Nat
  /-- `frame_irq` (R57). -/
  frameIrq : Bool
  pulse1 : Pulse
  pulse2 : Pulse
  triangle : Triangle
  noise : Noise
  deriving DecidableEq, Repr

/-- A cartridge given as plain data, one instance of the parameter `Cart` of rule R74: it claims the CPU
addresses from `cpuBase` up (none when `cpuBase` is 65536 or more) and, if `chrClaimed`, the pattern tables
0x0000 to 0x1FFF of the PPU bus; each claimed space is ROM or RAM. -/
structure Board where
  cpu : Memory
  cpuBase : Nat
  cpuWritable : Bool
  chr : Memory
  chrClaimed : Bool
  chrWritable : Bool
  mirroring : Mirroring
  /-- `Cart.irq_pending`. -/
  irq : Bool
  deriving DecidableEq, Repr

/-- The parameter `Cart` (rules R7, R74): a board given as data, or any cartridge at all, its inside coded
as a number and its behaviour the uninterpreted functions of Config.lean (DESIGN CHOICE, log entry 5). -/
inductive Cart where
  | board (b : Board)
  | mapper (inside : Nat)
  deriving DecidableEq, Repr

/-- A pixel output (rules R352, R436): the position and the 6-bit value. -/
structure Pixel where
  x : Nat
  y : Nat
  value : BitVec 6
  deriving DecidableEq, Repr

/-- The pulse part of the APU's output (rule R487). -/
structure PulseOut where
  enabled : Bool
  period : BitVec 11
  duty : BitVec 2
  amplitude : BitVec 4
  deriving DecidableEq, Repr

/-- The triangle part of the APU's output (rule R487). -/
structure TriangleOut where
  enabled : Bool
  period : BitVec 11
  deriving DecidableEq, Repr

/-- The noise part of the APU's output (rule R487). -/
structure NoiseOut where
  enabled : Bool
  period : Nat
  mode : Bool
  amplitude : BitVec 4
  deriving DecidableEq, Repr

/-- The APU's observable output (rule R487). -/
structure Sound where
  pulse1 : PulseOut
  pulse2 : PulseOut
  triangle : TriangleOut
  noise : NoiseOut
  deriving DecidableEq, Repr

/-- The whole machine.  `cfg` and `cart` are the parameters of rule R64, held here so that a statement about
every state is a statement about every configuration and every cartridge (DESIGN CHOICE, log entry 2). -/
structure State where
  cpu : Cpu
  /-- Work RAM, 2048 bytes (R38). -/
  ram : Memory
  dma : Dma
  /-- Controller 0, read at 0x4016 (R41). -/
  pad0 : Pad
  /-- Controller 1, read at 0x4017 (R41). -/
  pad1 : Pad
  ppu : Ppu
  apu : Apu
  /-- Master ticks completed since power-on (R39). -/
  master : Nat
  /-- CPU-cadence ticks completed since power-on (R37). -/
  cyc : Nat
  cart : Cart
  cfg : Config
  /-- The pixel emitted by the last PPU tick, if it emitted one (R352, R436; DESIGN CHOICE, log entry 11). -/
  pixel : Option Pixel
  /-- The channel tuple sampled after the last APU step, if one has run (R352, R487). -/
  sound : Option Sound
  deriving DecidableEq, Repr

/-- Why a step has no next state. -/
inductive Fault where
  /-- `UnknownOpcode(op, at)` of rule R301, raised by the CPU tick (Machine/Tick.lean) that fetches at `addr`
  an opcode byte with no table row, or an unofficial one that `UnofficialSet` leaves out.  It carries the
  state at the start of the CPU tick, for diagnosis.  Safe: the spec gives no next state, so the machine
  stops and no claim survives it (decision D18). -/
  | unknownOpcode (op : Byte) (addr : Word) (before : State)
  deriving DecidableEq, Repr

/-- Why an instruction has no meaning here.  No instruction of this model is refused. -/
inductive Refusal where
  /-- Raised only by an arm of `exec` whose instruction has no meaning yet; there is none.  Safe: the machine
  stops. -/
  | notModelled (mnemonic : String)
  deriving DecidableEq, Repr

/-! ### Power-on values (rule R65) -/

/-- A memory of zeros. -/
def Memory.empty : Memory := ⟨.zero, []⟩

/-- A memory that nothing has written: the free draw `n` (rule R66). -/
def Memory.drawn (n : Nat) : Memory := ⟨.draw n, []⟩

/-- The CPU at power-on, before the reset procedure loads `PC` and `wait_cycles` (rule R65; DESIGN CHOICE, log entry
18). -/
def Cpu.powerOn : Cpu where
  a := 0
  x := 0
  y := 0
  s := Config.powerOnStack
  pc := 0
  n := false
  v := false
  b := false
  d := false
  i := true
  z := false
  c := false
  waitCycles := 0
  nmiLatch := false
  irqLatch := false

/-- The DMA unit at power-on (rule R40). -/
def Dma.powerOn : Dma where
  page := 0
  addr := 0
  data := 0
  transfer := false
  dummy := true

/-- A controller at power-on (rule R41). -/
def Pad.powerOn : Pad := ⟨0, 0⟩

/-- The PPU at power-on over given memories (rule R65). -/
def Ppu.powerOn (oam nametable palette : Memory) : Ppu where
  cycle := 0
  scanline := 0
  oddFrame := false
  ctrl := 0
  mask := 0
  vblank := false
  spr0Hit := false
  sprOverflow := false
  vramAddr := 0
  tramAddr := 0
  fineX := 0
  addrLatch := false
  dataBuffer := 0
  oam := oam
  oamAddr := 0
  nextTileId := 0
  nextTileAttr := 0
  nextTileLsb := 0
  nextTileMsb := 0
  bgPatLo := 0
  bgPatHi := 0
  bgAttrLo := 0
  bgAttrHi := 0
  sprites := []
  sprZeroSelected := false
  lanes := List.replicate 8 ⟨0, 0⟩
  statusReadThisTick := false
  statusReadLastTick := false
  nametable := nametable
  palette := palette

/-- A length counter at power-on: 0, disabled (rule R61). -/
def Length.powerOn : Length := ⟨0, false⟩

/-- An envelope at power-on (rule R62). -/
def Envelope.powerOn : Envelope := ⟨false, 0, 0, 0⟩

/-- A pulse channel at power-on (rules R58, R63). -/
def Pulse.powerOn : Pulse where
  control := 0
  sweep := 0
  timerLow := 0
  timerHigh := 0
  timer := 0
  length := .powerOn
  envelope := .powerOn
  swDivider := 0
  swReload := false

/-- The APU at power-on (rules R57 to R63). -/
def Apu.powerOn : Apu where
  fcMode := false
  fcIrqInhibit := false
  fcPos := 0
  frameIrq := false
  pulse1 := .powerOn
  pulse2 := .powerOn
  triangle := ⟨0, 0, 0, 0, false, .powerOn⟩
  noise := ⟨0, 0, 0, .powerOn, .powerOn⟩

/-- A board that declines every access: rule R74 calls such a `Cart` legal.  The spec gives no mirroring mode for it;
that it is horizontal is this model's choice (DESIGN CHOICE, log entry 4). -/
def Board.empty : Board where
  cpu := .empty
  cpuBase := 65536
  cpuWritable := false
  chr := .empty
  chrClaimed := false
  chrWritable := false
  mirroring := .horizontal
  irq := false

/-- Power-on before the reset procedure has run (rule R500), for any configuration, cartridge and memory
contents `RamInit`, `OamInit`, `VramInit`, `PaletteInit`. -/
def State.powerOn (cfg : Config) (cart : Cart) (ram oam nametable palette : Memory) : State where
  cpu := .powerOn
  ram := ram
  dma := .powerOn
  pad0 := .powerOn
  pad1 := .powerOn
  ppu := .powerOn oam nametable palette
  apu := .powerOn
  master := 0
  cyc := 0
  cart := cart
  cfg := cfg
  pixel := none
  sound := none

/-- The machine right after power-on and reset with the default parameters and a cartridge that declines
everything, so that the reset vector reads 0 (rules R500, R502, R503; DESIGN CHOICE, log entry 4); the four memories
are free draws that nothing has written (rule R66; log entry 3); the registers are those of rule R65 (UNVERIFIED,
log entry 7).
`Laws/Tick.lean` shows that it is the reset procedure applied to `State.powerOn`. -/
def State.reset : State :=
  let s := State.powerOn Config.standard (.board Board.empty) (.drawn 0) (.drawn 1) (.drawn 2) (.drawn 3)
  { s with cpu := { s.cpu with pc := 0x0000, waitCycles := 7 } }

end Sys2Proof.Machine
end

