-- ==== Sys2Proof/Machine/Bits.lean ====
section
/-! DEFINITION. Bit-field helpers: the views of the PPU control, mask and scroll registers
(spec/10_state.md rules R44, R45, R47), sign extension and page tests (spec/00_scope.md rules R8, R9). -/

namespace Sys2Proof.Machine

/-- Bit `k` of a byte (rule R8). -/
def bit (v : Byte) (k : Nat) : Bool := v.getLsbD k

/-- `zext_16` (rule R9). -/
def zext16 (v : Byte) : Word := v.zeroExtend 16

/-- `sext_16` (rule R9). -/
def sext16 (v : Byte) : Word := v.signExtend 16

/-- `page(a) = a[15:8]` (rule R8). -/
def page (a : Word) : Byte := a.extractLsb' 8 8

/-- `a[7:0]`. -/
def offset (a : Word) : Byte := a.extractLsb' 0 8

/-- The bits of a byte in reverse order (rule R421). -/
def bitReverse8 (v : Byte) : Byte :=
  BitVec.ofBool (bit v 0) ++ BitVec.ofBool (bit v 1) ++ BitVec.ofBool (bit v 2) ++ BitVec.ofBool (bit v 3) ++
  BitVec.ofBool (bit v 4) ++ BitVec.ofBool (bit v 5) ++ BitVec.ofBool (bit v 6) ++ BitVec.ofBool (bit v 7)

/-! ### Scroll register fields (rule R47) -/

/-- `coarse_x`, bits 4:0. -/
def coarseX (r : Scroll) : BitVec 5 := r.extractLsb' 0 5
/-- `coarse_y`, bits 9:5. -/
def coarseY (r : Scroll) : BitVec 5 := r.extractLsb' 5 5
/-- `nt_x`, bit 10. -/
def ntX (r : Scroll) : BitVec 1 := r.extractLsb' 10 1
/-- `nt_y`, bit 11. -/
def ntY (r : Scroll) : BitVec 1 := r.extractLsb' 11 1
/-- `fine_y`, bits 14:12. -/
def fineY (r : Scroll) : BitVec 3 := r.extractLsb' 12 3

/-- The scroll register with the given fields. -/
def mkScroll (fy : BitVec 3) (ny nx : BitVec 1) (cy cx : BitVec 5) : Scroll := fy ++ ny ++ nx ++ cy ++ cx

/-- Replace `coarse_x`. -/
def withCoarseX (r : Scroll) (v : BitVec 5) : Scroll := mkScroll (fineY r) (ntY r) (ntX r) (coarseY r) v
/-- Replace `coarse_y`. -/
def withCoarseY (r : Scroll) (v : BitVec 5) : Scroll := mkScroll (fineY r) (ntY r) (ntX r) v (coarseX r)
/-- Replace `nt_x`. -/
def withNtX (r : Scroll) (v : BitVec 1) : Scroll := mkScroll (fineY r) (ntY r) v (coarseY r) (coarseX r)
/-- Replace `nt_y`. -/
def withNtY (r : Scroll) (v : BitVec 1) : Scroll := mkScroll (fineY r) v (ntX r) (coarseY r) (coarseX r)
/-- Replace `fine_y`. -/
def withFineY (r : Scroll) (v : BitVec 3) : Scroll := mkScroll v (ntY r) (ntX r) (coarseY r) (coarseX r)

/-! ### PPU control register (rule R44) -/

/-- `ctrl[0]`, nametable select X. -/
def ctrlNtX (v : Byte) : BitVec 1 := v.extractLsb' 0 1
/-- `ctrl[1]`, nametable select Y. -/
def ctrlNtY (v : Byte) : BitVec 1 := v.extractLsb' 1 1
/-- `inc32`: port 7 adds 32. -/
def inc32 (ctrl : Byte) : Bool := bit ctrl 2
/-- `spr_table`, the pattern table of 8×8 sprites. -/
def sprTable (ctrl : Byte) : BitVec 1 := ctrl.extractLsb' 3 1
/-- `bg_table`, the pattern table of the background. -/
def bgTable (ctrl : Byte) : BitVec 1 := ctrl.extractLsb' 4 1
/-- `spr_16`: sprites are 8×16. -/
def spr16 (ctrl : Byte) : Bool := bit ctrl 5
/-- `nmi_en`: request an NMI at the start of vblank. -/
def nmiEn (ctrl : Byte) : Bool := bit ctrl 7

/-! ### PPU mask register (rule R45) -/

/-- `gray`. -/
def gray (mask : Byte) : Bool := bit mask 0
/-- `bg_left`. -/
def bgLeft (mask : Byte) : Bool := bit mask 1
/-- `spr_left`. -/
def sprLeft (mask : Byte) : Bool := bit mask 2
/-- `bg_en`. -/
def bgEn (mask : Byte) : Bool := bit mask 3
/-- `spr_en`. -/
def sprEn (mask : Byte) : Bool := bit mask 4

/-- Rendering is enabled (rule R45). -/
def rendering (p : Ppu) : Bool := bgEn p.mask || sprEn p.mask

end Sys2Proof.Machine
end

