-- ==== Sys2Proof/Machine/Apu.lean ====
section
/-! DEFINITION. The APU: register views and writes, the shared units, the frame sequencer and the output tuple
(spec/63_apu.md rules R450 to R488). -/

namespace Sys2Proof.Machine

/-! ### Length counter (rules R458, R459) -/

/-- `LengthTable`, 32 entries (rule R459). -/
def lengthTable : List Byte :=
  [10, 254, 20, 2, 40, 4, 80, 6, 160, 8, 60, 10, 14, 12, 26, 14] ++
  [12, 16, 24, 18, 48, 20, 96, 22, 192, 24, 72, 26, 16, 28, 32, 30]

/-- The length code of a length register byte, `v[7:3]`. -/
def lengthCode (v : Byte) : BitVec 5 := v.extractLsb' 3 5

namespace Length

/-- Load on a write of `v` to the channel's length register: only an enabled counter loads (rule R458). -/
def load (l : Length) (v : Byte) : Length :=
  if l.enabled then { l with len := lengthTable.getD (lengthCode v).toNat 0 } else l

/-- Half-frame clock (rule R458). -/
def clock (l : Length) (halt : Bool) : Length :=
  if !halt && l.len != 0 then { l with len := l.len - 1 } else l

/-- Channel enable from 0x4015 (rule R480): disabling clears the counter. -/
def setEnabled (l : Length) (on : Bool) : Length := ⟨if on then l.len else 0, on⟩

/-- `len > 0`. -/
def running (l : Length) : Bool := l.len != 0

end Length

/-! ### Envelope (rule R457); the control byte carries `halt` in bit 5, `const_vol` in bit 4, `vol` in 3:0 -/

/-- `halt`: the length counter's halt and the envelope's loop flag (rules R460, R475). -/
def haltOf (control : Byte) : Bool := bit control 5
/-- `const_vol`. -/
def constVolOf (control : Byte) : Bool := bit control 4
/-- `vol`. -/
def volOf (control : Byte) : BitVec 4 := control.extractLsb' 0 4

namespace Envelope

/-- The last line of rule R457: `output <- vol if const_vol = 1 else decay`. -/
def refresh (e : Envelope) (control : Byte) : Envelope :=
  { e with output := if constVolOf control then volOf control else e.decay }

/-- Quarter-frame clock (rule R457). -/
def clock (e : Envelope) (control : Byte) : Envelope :=
  let e' : Envelope :=
    if e.start then { e with start := false, decay := 15, divider := volOf control }
    else if e.divider = 0 then
      { e with
        divider := volOf control
        decay := if e.decay != 0 then e.decay - 1 else if haltOf control then 15 else e.decay }
    else { e with divider := e.divider - 1 }
  e'.refresh control

/-- `envelope.start <- 1` (rules R463, R477). -/
def restart (e : Envelope) : Envelope := { e with start := true }

end Envelope

/-! ### Pulse channels (rules R460 to R466) -/

namespace Pulse

/-- `duty`, bits 7:6 of the control byte (rule R460). -/
def duty (p : Pulse) : BitVec 2 := p.control.extractLsb' 6 2
/-- `sw_enabled`, bit 7 of the sweep byte (rule R461). -/
def swEnabled (p : Pulse) : Bool := bit p.sweep 7
/-- `sw_period`, bits 6:4 (rule R461). -/
def swPeriod (p : Pulse) : BitVec 3 := p.sweep.extractLsb' 4 3
/-- `sw_negate`, bit 3 (rule R461). -/
def swNegate (p : Pulse) : Bool := bit p.sweep 3
/-- `sw_shift`, bits 2:0 (rule R461). -/
def swShift (p : Pulse) : BitVec 3 := p.sweep.extractLsb' 0 3

/-- Write to 0x4000 or 0x4004 (rule R460). -/
def writeControl (p : Pulse) (v : Byte) : Pulse :=
  { p with control := v, envelope := p.envelope.refresh v }

/-- Write to 0x4001 or 0x4005 (rule R461). -/
def writeSweep (p : Pulse) (v : Byte) : Pulse := { p with sweep := v, swReload := true }

/-- Write to 0x4002 or 0x4006 (rule R462). -/
def writeTimerLow (p : Pulse) (v : Byte) : Pulse :=
  { p with timerLow := v, timer := p.timer.extractLsb' 8 3 ++ v }

/-- Write to 0x4003 or 0x4007 (rule R463). -/
def writeTimerHigh (p : Pulse) (v : Byte) : Pulse :=
  { p with
    timerHigh := v
    timer := v.extractLsb' 0 3 ++ p.timer.extractLsb' 0 8
    length := p.length.load v
    envelope := p.envelope.restart }

/-- The sweep target of rule R464, an integer not reduced to 11 bits; `first` says the channel is pulse 1. -/
def sweepTarget (first : Bool) (p : Pulse) : Nat :=
  let timer := p.timer.toNat
  let change := timer >>> p.swShift.toNat
  if p.swNegate then (if first then timer - change - 1 else timer - change) else timer + change

/-- `sweep_mute` of rule R464. -/
def sweepMute (first : Bool) (p : Pulse) : Bool :=
  decide (p.timer.toNat < 8) || decide (p.sweepTarget first > 0x7FF)

/-- Half-frame clock of the sweep unit (rule R465). -/
def clockSweep (first : Bool) (p : Pulse) : Pulse :=
  let timer :=
    if p.swDivider = 0 ∧ p.swEnabled = true ∧ p.swShift ≠ 0 ∧ p.sweepMute first = false
    then BitVec.ofNat 11 (p.sweepTarget first) else p.timer
  if p.swDivider = 0 ∨ p.swReload = true then
    { p with timer := timer, swDivider := p.swPeriod, swReload := false }
  else { p with timer := timer, swDivider := p.swDivider - 1 }

/-- Quarter-frame clock of the envelope (rule R454). -/
def clockEnvelope (p : Pulse) : Pulse := { p with envelope := p.envelope.clock p.control }

/-- Half-frame clock of the length counter (rule R455). -/
def clockLength (p : Pulse) : Pulse := { p with length := p.length.clock (haltOf p.control) }

/-- The amplitude of rule R466. -/
def amplitude (first : Bool) (p : Pulse) : BitVec 4 :=
  if p.envelope.output.toNat ≤ 2 ∨ p.length.len = 0 ∨ p.timer.toNat < 8 ∨ p.sweepTarget first > 0x7FF
  then 0 else p.envelope.output

/-- The channel's part of rule R487's tuple. -/
def out (first : Bool) (p : Pulse) : PulseOut where
  enabled := p.length.running
  period := p.timer
  duty := p.duty
  amplitude := p.amplitude first

end Pulse

/-! ### Triangle channel (rules R470 to R473) -/

namespace Triangle

/-- `control`, bit 7, also the length counter's halt (rule R470). -/
def control (t : Triangle) : Bool := bit t.linear 7
/-- `linear_reload_value`, bits 6:0 (rule R470). -/
def reloadValue (t : Triangle) : BitVec 7 := t.linear.extractLsb' 0 7
/-- `timer`: bits 7:0 last written to 0x400A, bits 10:8 to 0x400B (rules R471, R472). -/
def timer (t : Triangle) : BitVec 11 := t.timerHigh.extractLsb' 0 3 ++ t.timerLow

/-- Write to 0x4008 (rule R470). -/
def writeLinear (t : Triangle) (v : Byte) : Triangle := { t with linear := v }
/-- Write to 0x400A (rule R471). -/
def writeTimerLow (t : Triangle) (v : Byte) : Triangle := { t with timerLow := v }
/-- Write to 0x400B (rule R472). -/
def writeTimerHigh (t : Triangle) (v : Byte) : Triangle :=
  { t with timerHigh := v, length := t.length.load v, linearReload := true }

/-- Quarter-frame clock of the linear counter (rule R473). -/
def clockLinear (t : Triangle) : Triangle :=
  { t with
    linearCounter :=
      if t.linearReload then t.reloadValue
      else if t.linearCounter != 0 then t.linearCounter - 1 else t.linearCounter
    linearReload := t.linearReload && t.control }

/-- Half-frame clock of the length counter (rule R455). -/
def clockLength (t : Triangle) : Triangle := { t with length := t.length.clock t.control }

/-- The channel's part of rule R487's tuple. -/
def out (t : Triangle) : TriangleOut where
  enabled := t.length.running && t.linearCounter != 0
  period := t.timer

end Triangle

/-! ### Noise channel (rules R475 to R477) -/

/-- `NoisePeriod` (rule R476). -/
def noisePeriod : List Nat :=
  [4, 8, 16, 32, 64, 96, 128, 160, 202, 254, 380, 508, 762, 1016, 2034, 4068]

namespace Noise

/-- `mode`, bit 7 of 0x400E (rule R476). -/
def mode (n : Noise) : Bool := bit n.period 7
/-- `period_index`, bits 3:0 of 0x400E (rule R476). -/
def periodIndex (n : Noise) : BitVec 4 := n.period.extractLsb' 0 4

/-- Write to 0x400C (rule R475). -/
def writeControl (n : Noise) (v : Byte) : Noise :=
  { n with control := v, envelope := n.envelope.refresh v }
/-- Write to 0x400E (rule R476). -/
def writePeriod (n : Noise) (v : Byte) : Noise := { n with period := v }
/-- Write to 0x400F (rule R477). -/
def writeLength (n : Noise) (v : Byte) : Noise :=
  { n with lengthReg := v, length := n.length.load v, envelope := n.envelope.restart }

/-- Quarter-frame clock of the envelope (rule R454). -/
def clockEnvelope (n : Noise) : Noise := { n with envelope := n.envelope.clock n.control }
/-- Half-frame clock of the length counter (rule R455). -/
def clockLength (n : Noise) : Noise := { n with length := n.length.clock (haltOf n.control) }

/-- The channel's part of rule R487's tuple. -/
def out (n : Noise) : NoiseOut where
  enabled := n.length.running
  period := noisePeriod.getD n.periodIndex.toNat 0
  mode := n.mode
  amplitude := n.envelope.output

end Noise

/-! ### The frame sequencer (rules R452 to R456) -/

namespace Apu

/-- The frame length `L` of rule R452. -/
def frameLength (a : Apu) : Nat := if a.fcMode then Config.frameLength5 else Config.frameLength4

/-- `QuarterFrame` (rule R454). -/
def quarterFrame (a : Apu) : Apu :=
  { a with
    pulse1 := a.pulse1.clockEnvelope
    pulse2 := a.pulse2.clockEnvelope
    noise := a.noise.clockEnvelope
    triangle := a.triangle.clockLinear }

/-- `HalfFrame` (rule R455). -/
def halfFrame (a : Apu) : Apu :=
  { a with
    pulse1 := a.pulse1.clockLength.clockSweep true
    pulse2 := a.pulse2.clockLength.clockSweep false
    triangle := a.triangle.clockLength
    noise := a.noise.clockLength }

/-- Position `pos` is a quarter-frame boundary of a frame of length `len` (rule R452). -/
def isQuarter (pos len : Nat) : Bool := pos == 3729 || pos == 7457 || pos == 11186 || pos == len

/-- Position `pos` is a half-frame boundary of a frame of length `len` (rule R452). -/
def isHalf (pos len : Nat) : Bool := pos == 7457 || pos == len

/-- One APU step (rule R452). -/
def step (a : Apu) : Apu :=
  let pos := a.fcPos + 1
  let len := a.frameLength
  let a1 := if isQuarter pos len then a.quarterFrame else a
  let a2 := if isHalf pos len then a1.halfFrame else a1
  if pos = len then
    { a2 with fcPos := 0, frameIrq := a2.frameIrq || (!a2.fcMode && !a2.fcIrqInhibit) }
  else { a2 with fcPos := pos }

/-- Write of `v` to 0x4017 (rule R484). -/
def writeFrameCounter (a : Apu) (v : Byte) : Apu :=
  let a1 : Apu :=
    { a with
      fcMode := bit v 7
      fcIrqInhibit := bit v 6
      frameIrq := a.frameIrq && !bit v 6
      fcPos := 0 }
  if bit v 7 then a1.quarterFrame.halfFrame else a1

/-- Write of `v` to 0x4015 (rule R480). -/
def writeEnable (a : Apu) (v : Byte) : Apu :=
  { a with
    pulse1 := { a.pulse1 with length := a.pulse1.length.setEnabled (bit v 0) }
    pulse2 := { a.pulse2 with length := a.pulse2.length.setEnabled (bit v 1) }
    triangle := { a.triangle with length := a.triangle.length.setEnabled (bit v 2) }
    noise := { a.noise with length := a.noise.length.setEnabled (bit v 3) } }

/-- What a read of 0x4015 returns (rule R485). -/
def status (a : Apu) : Byte :=
  BitVec.ofBool false ++ BitVec.ofBool a.frameIrq ++ BitVec.ofBool false ++ BitVec.ofBool false ++
  BitVec.ofBool a.noise.length.running ++ BitVec.ofBool a.triangle.length.running ++
  BitVec.ofBool a.pulse2.length.running ++ BitVec.ofBool a.pulse1.length.running

/-- The side effect of a read of 0x4015 (rule R485). -/
def afterStatusRead (a : Apu) : Apu := { a with frameIrq := false }

/-- A CPU write of `v` to APU register `0x4000 + reg` (rules R451, R486). -/
def write (a : Apu) (reg : Nat) (v : Byte) : Apu :=
  match reg with
  | 0x00 => { a with pulse1 := a.pulse1.writeControl v }
  | 0x01 => { a with pulse1 := a.pulse1.writeSweep v }
  | 0x02 => { a with pulse1 := a.pulse1.writeTimerLow v }
  | 0x03 => { a with pulse1 := a.pulse1.writeTimerHigh v }
  | 0x04 => { a with pulse2 := a.pulse2.writeControl v }
  | 0x05 => { a with pulse2 := a.pulse2.writeSweep v }
  | 0x06 => { a with pulse2 := a.pulse2.writeTimerLow v }
  | 0x07 => { a with pulse2 := a.pulse2.writeTimerHigh v }
  | 0x08 => { a with triangle := a.triangle.writeLinear v }
  | 0x0A => { a with triangle := a.triangle.writeTimerLow v }
  | 0x0B => { a with triangle := a.triangle.writeTimerHigh v }
  | 0x0C => { a with noise := a.noise.writeControl v }
  | 0x0E => { a with noise := a.noise.writePeriod v }
  | 0x0F => { a with noise := a.noise.writeLength v }
  | 0x15 => a.writeEnable v
  | 0x17 => a.writeFrameCounter v
  | _ => a

/-- The observable output (rule R487). -/
def sample (a : Apu) : Sound where
  pulse1 := a.pulse1.out true
  pulse2 := a.pulse2.out false
  triangle := a.triangle.out
  noise := a.noise.out

end Apu

/-- One APU step of the machine, and the sampling of its output (rules R341, R452, R487). -/
def apuStep (s : State) : State :=
  let a := s.apu.step
  { s with apu := a, sound := some a.sample }

end Sys2Proof.Machine
end

