-- ==== Sys2Proof/Machine/Flags.lean ====
section
/-! DEFINITION. Flag computations and the arithmetic on CPU registers: the status byte
(spec/10_state.md rule R28), the adder and the comparator (spec/41_alu.md rules R182, R188), the shifts,
rotates, increments and decrements (spec/42_rmw_shift.md). -/

namespace Sys2Proof.Machine

namespace Cpu

/-- `SetZN(v)` (rule R9). -/
def setZN (c : Cpu) (v : Byte) : Cpu := { c with z := v == 0, n := bit v 7 }

/-- `Pbyte(b)`: N V 1 b D I Z C (rules R9, R28, R33). -/
def pbyte (c : Cpu) (b : Bool) : Byte :=
  BitVec.ofBool c.n ++ BitVec.ofBool c.v ++ BitVec.ofBool true ++ BitVec.ofBool b ++
  BitVec.ofBool c.d ++ BitVec.ofBool c.i ++ BitVec.ofBool c.z ++ BitVec.ofBool c.c

/-- `SetP(v)`: bits 5 and 4 are ignored, the stored `B` stays (rules R9, R30). -/
def setP (c : Cpu) (v : Byte) : Cpu :=
  { c with n := bit v 7, v := bit v 6, d := bit v 3, i := bit v 2, z := bit v 1, c := bit v 0 }

/-- `AddWithCarry(m)` (rule R182). -/
def addWithCarry (c : Cpu) (m : Byte) : Cpu :=
  let sum9 : BitVec 9 := c.a.zeroExtend 9 + m.zeroExtend 9 + (BitVec.ofBool c.c).zeroExtend 9
  let r : Byte := sum9.extractLsb' 0 8
  { c with
    v := bit ((c.a ^^^ r) &&& (m ^^^ r)) 7
    c := sum9.getLsbD 8
    a := r
    z := r == 0
    n := bit r 7 }

/-- Subtraction: the adder on the inverted operand (rule R184). -/
def subWithBorrow (c : Cpu) (m : Byte) : Cpu := c.addWithCarry (m ^^^ 0xFF)

/-- `Compare(r, m)` (rule R188). -/
def compare (c : Cpu) (r m : Byte) : Cpu := { c with c := decide (m.toNat ≤ r.toNat) }.setZN (r - m)

/-- Write `A` and set Z and N from it (rule R20). -/
def loadA (c : Cpu) (v : Byte) : Cpu := { c with a := v }.setZN v

/-- Write `X` and set Z and N from it (rule R20). -/
def loadX (c : Cpu) (v : Byte) : Cpu := { c with x := v }.setZN v

/-- Write `Y` and set Z and N from it (rule R20). -/
def loadY (c : Cpu) (v : Byte) : Cpu := { c with y := v }.setZN v

/-- BIT (rule R192). -/
def bitTest (c : Cpu) (m : Byte) : Cpu := { c with z := c.a &&& m == 0, n := bit m 7, v := bit m 6 }

/-! The byte functions of the read-modify-write family: the result and the CPU with `C` updated; Z and N are
set afterwards by the caller, from the value its rule names. -/

/-- ASL (rule R201). -/
def asl (m : Byte) (c : Cpu) : Byte × Cpu := (m <<< 1, { c with c := bit m 7 })

/-- LSR (rule R202). -/
def lsr (m : Byte) (c : Cpu) : Byte × Cpu := (m >>> 1, { c with c := bit m 0 })

/-- ROL (rule R203): a 9-bit rotation of `C ++ m`. -/
def rol (m : Byte) (c : Cpu) : Byte × Cpu :=
  ((m <<< 1) ||| (BitVec.ofBool c.c).zeroExtend 8, { c with c := bit m 7 })

/-- ROR (rule R204). -/
def ror (m : Byte) (c : Cpu) : Byte × Cpu :=
  ((m >>> 1) ||| ((BitVec.ofBool c.c).zeroExtend 8 <<< 7), { c with c := bit m 0 })

/-- INC (rule R205); `C` is untouched. -/
def inc (m : Byte) (c : Cpu) : Byte × Cpu := (m + 1, c)

/-- DEC (rule R206); `C` is untouched. -/
def dec (m : Byte) (c : Cpu) : Byte × Cpu := (m - 1, c)

end Cpu

end Sys2Proof.Machine
end

