-- ==== Sys2Proof/Machine/Mem.lean ====
section
/-! DEFINITION. Reading and writing a byte memory kept as a sorted list of cells.  An address that no cell lists
reads as the memory's `unlisted` says: 0x00, or a free draw fixed at power-on (spec/10_state.md rule R66).  A write
of that value removes the cell, so that equal memories are equal data. -/

namespace Sys2Proof.Machine

/-- The byte an unlisted address reads as (rule R66; log entry 3). -/
def Unlisted.byte : Unlisted → Nat → Byte
  | .zero, _ => 0x00
  | .draw n, a => Config.memoryDraw n a

/-- The byte at `a` in a list of cells over the unlisted bytes `u`. -/
def readCells (u : Nat → Byte) (a : Nat) : List Host.Cell → Byte
  | [] => u a
  | c :: rest => if c.1 = a then c.2 else readCells u a rest

/-- The cells with the byte at `a` set to `v`, in canonical form. -/
def writeCells (u : Nat → Byte) (a : Nat) (v : Byte) : List Host.Cell → List Host.Cell
  | [] => if v = u a then [] else [(a, v)]
  | c :: rest =>
    if a < c.1 then (if v = u a then c :: rest else (a, v) :: c :: rest)
    else if a = c.1 then (if v = u a then rest else (a, v) :: rest)
    else c :: writeCells u a v rest

/-- The cells lie at or above `lo`, strictly rising, below `size`, and none holds the byte its address reads as
unlisted. -/
def wfCells (u : Nat → Byte) (size : Nat) (lo : Nat) : List Host.Cell → Bool
  | [] => true
  | c :: rest =>
    decide (lo ≤ c.1) && decide (c.1 < size) && (c.2 != u c.1) && wfCells u size (c.1 + 1) rest

namespace Memory

/-- The byte at an address. -/
def read (m : Memory) (a : Nat) : Byte := readCells m.unlisted.byte a m.cells

/-- The memory with one byte changed. -/
def write (m : Memory) (a : Nat) (v : Byte) : Memory := { m with cells := writeCells m.unlisted.byte a v m.cells }

/-- The canonical form of a memory of `size` bytes. -/
def wf (size : Nat) (m : Memory) : Bool := wfCells m.unlisted.byte size 0 m.cells

/-- The memory that holds the given bytes from address `a` up. -/
def fill (m : Memory) (a : Nat) : List Byte → Memory
  | [] => m
  | v :: rest => (m.write a v).fill (a + 1) rest

end Memory

end Sys2Proof.Machine
end

