-- ==== Sys2Proof/Machine/Cart.lean ====
section
/-! DEFINITION. The interceptor interface of the cartridge, spec/20_memory.md rule R74.  `none` means
declined. -/

namespace Sys2Proof.Machine

/-- The board claims a CPU address. -/
def Board.claimsCpu (b : Board) (a : Word) : Bool := decide (b.cpuBase ≤ a.toNat)

/-- The board claims a PPU address: a pattern-table address, if it claims those. -/
def Board.claimsPpu (b : Board) (a : PpuAddr) : Bool := b.chrClaimed && decide (a.toNat < 0x2000)

namespace Cart

/-- `Cart.cpu_try_read(a)`. -/
def cpuTryRead : Cart → Word → Option Byte
  | .board b, a => if b.claimsCpu a then some (b.cpu.read a.toNat) else none
  | .mapper n, a => Config.mapperCpuRead n a

/-- `Cart.cpu_read_effects(a)`. -/
def readEffects : Cart → Word → Cart
  | .board b, _ => .board b
  | .mapper n, a => .mapper (Config.mapperReadEffects n a)

/-- `Cart.cpu_write(a, v)`: a board's ROM claims the write and keeps its contents (rule R72). -/
def cpuWrite : Cart → Word → Byte → Option Cart
  | .board b, a, v =>
    if b.claimsCpu a then
      some (.board (if b.cpuWritable then { b with cpu := b.cpu.write a.toNat v } else b))
    else none
  | .mapper n, a, v => (Config.mapperCpuWrite n a v).map .mapper

/-- `Cart.ppu_try_read(a)`. -/
def ppuTryRead : Cart → PpuAddr → Option Byte
  | .board b, a => if b.claimsPpu a then some (b.chr.read a.toNat) else none
  | .mapper n, a => Config.mapperPpuRead n a

/-- `Cart.ppu_write(a, v)`. -/
def ppuWrite : Cart → PpuAddr → Byte → Option Cart
  | .board b, a, v =>
    if b.claimsPpu a then
      some (.board (if b.chrWritable then { b with chr := b.chr.write a.toNat v } else b))
    else none
  | .mapper n, a, v => (Config.mapperPpuWrite n a v).map .mapper

/-- `Cart.mirroring`. -/
def mirroring : Cart → Mirroring
  | .board b => b.mirroring
  | .mapper n => Config.mapperMirroring n

/-- `Cart.irq_pending`. -/
def irqPending : Cart → Bool
  | .board b => b.irq
  | .mapper n => Config.mapperIrqPending n

/-- `Cart.irq_ack`. -/
def irqAck : Cart → Cart
  | .board b => .board { b with irq := false }
  | .mapper n => .mapper (Config.mapperIrqAck n)

/-- `Cart.on_scanline(scanline, rendering)`: a board counts no scanlines. -/
def onScanline : Cart → Int → Bool → Cart
  | .board b, _, _ => .board b
  | .mapper n, line, on => .mapper (Config.mapperOnScanline n line on)

end Cart

end Sys2Proof.Machine
end

