-- ==== Sys2Proof/Machine/PpuBus.lean ====
section
/-! DEFINITION. The PPU bus (spec/62_ppu.md rules R390 to R394): pattern tables, nametables under the
cartridge's mirroring, palette RAM with its aliases. -/

namespace Sys2Proof.Machine

/-- `phys(t)` of rule R392: the physical nametable behind logical table `t`. -/
def physTable (m : Mirroring) (single : BitVec 2) (t : BitVec 2) : BitVec 2 :=
  match m with
  | .vertical => t &&& 1
  | .horizontal => t >>> 1
  | .singleScreen => single
  | .fourScreen => t

/-- The index into nametable RAM of a PPU address (rule R392): physical table, then the offset `a[9:0]`. -/
def nametableIndex (m : Mirroring) (single : BitVec 2) (a : PpuAddr) : Nat :=
  (physTable m single (a.extractLsb' 10 2)).toNat * 1024 + (a.extractLsb' 0 10).toNat

/-- The index into palette RAM of a PPU address (rule R393): `a mod 32`, with 0x10, 0x14, 0x18 and 0x1C
aliasing 0x00, 0x04, 0x08 and 0x0C. -/
def paletteIndex (a : PpuAddr) : Nat :=
  let i := a.toNat % 32
  if i = 0x10 ∨ i = 0x14 ∨ i = 0x18 ∨ i = 0x1C then i - 0x10 else i

/-- `PpuRead(a)` (rules R390 to R393). -/
def ppuRead (s : State) (a : PpuAddr) : Byte :=
  match s.cart.ppuTryRead a with
  | some v => v
  | none =>
    if a.toNat < 0x2000 then 0
    else if a.toNat < 0x3F00 then
      s.ppu.nametable.read (nametableIndex s.cart.mirroring s.cfg.singleScreenTable a)
    else s.ppu.palette.read (paletteIndex a)

/-- `PpuWrite(a, v)` (rules R390 to R393); a pattern-table write that the cartridge declines is ignored. -/
def ppuWrite (s : State) (a : PpuAddr) (v : Byte) : State :=
  match s.cart.ppuWrite a v with
  | some c => { s with cart := c }
  | none =>
    if a.toNat < 0x2000 then s
    else if a.toNat < 0x3F00 then
      let i := nametableIndex s.cart.mirroring s.cfg.singleScreenTable a
      { s with ppu := { s.ppu with nametable := s.ppu.nametable.write i v } }
    else { s with ppu := { s.ppu with palette := s.ppu.palette.write (paletteIndex a) v } }

end Sys2Proof.Machine
end

