-- ==== Sys2Proof/Machine/PpuPorts.lean ====
section
/-! DEFINITION. The eight CPU-visible PPU ports (spec/62_ppu.md rules R380 to R389). -/

namespace Sys2Proof.Machine

/-- What port 7 adds to `vram_addr` (rules R387, R389). -/
def vramIncrement (p : Ppu) : Scroll := if inc32 p.ctrl then 32 else 1

/-- The PPU bus address of port 7, `vram_addr[13:0]`. -/
def vramBusAddr (p : Ppu) : PpuAddr := p.vramAddr.extractLsb' 0 14

/-- The status byte: `vblank ++ spr0_hit ++ spr_overflow ++ data_buffer[4:0]` (rule R388). -/
def statusByte (p : Ppu) : Byte :=
  BitVec.ofBool p.vblank ++ BitVec.ofBool p.spr0Hit ++ BitVec.ofBool p.sprOverflow ++
  p.dataBuffer.extractLsb' 0 5

/-- `try_read_readonly` of a port; ports 0, 1, 3, 5 and 6 are write-only (rules R77, R384, R388, R389). -/
def portTryRead (s : State) (port : Nat) : Option Byte :=
  match port with
  | 2 => some (statusByte s.ppu)
  | 4 => some (s.ppu.oam.read s.ppu.oamAddr.toNat)
  | 7 =>
    let a := vramBusAddr s.ppu
    some (if 0x3F00 ≤ a.toNat then ppuRead s a else s.ppu.dataBuffer)
  | _ => none

/-- `read_side_effects` of a port (rules R388, R389). -/
def portReadEffects (s : State) (port : Nat) : State :=
  match port with
  | 2 => { s with ppu := { s.ppu with vblank := false, addrLatch := false, statusReadThisTick := true } }
  | 7 =>
    { s with
      ppu :=
        { s.ppu with
          dataBuffer := ppuRead s (vramBusAddr s.ppu)
          vramAddr := s.ppu.vramAddr + vramIncrement s.ppu } }
  | _ => s

/-- Port 0 write (rule R381). -/
def writePpuCtrl (p : Ppu) (v : Byte) : Ppu :=
  { p with ctrl := v, tramAddr := withNtY (withNtX p.tramAddr (ctrlNtX v)) (ctrlNtY v) }

/-- Port 4 write (rule R384). -/
def writeOamData (p : Ppu) (v : Byte) : Ppu :=
  { p with oam := p.oam.write p.oamAddr.toNat v, oamAddr := p.oamAddr + 1 }

/-- Port 5 write (rule R385). -/
def writeScroll (p : Ppu) (v : Byte) : Ppu :=
  if p.addrLatch then
    { p with
      tramAddr := withCoarseY (withFineY p.tramAddr (v.extractLsb' 0 3)) (v.extractLsb' 3 5)
      addrLatch := false }
  else
    { p with
      fineX := v.extractLsb' 0 3
      tramAddr := withCoarseX p.tramAddr (v.extractLsb' 3 5)
      addrLatch := true }

/-- Port 6 write (rule R386). -/
def writeAddr (p : Ppu) (v : Byte) : Ppu :=
  if p.addrLatch then
    let t : Scroll := p.tramAddr.extractLsb' 8 7 ++ v
    { p with tramAddr := t, vramAddr := t, addrLatch := false }
  else
    { p with
      tramAddr := (0#1 ++ v.extractLsb' 0 6 : BitVec 7) ++ p.tramAddr.extractLsb' 0 8
      addrLatch := true }

/-- A CPU write of `v` to a port; port 2 ignores it (rules R380 to R387). -/
def portWrite (s : State) (port : Nat) (v : Byte) : State :=
  match port with
  | 0 => { s with ppu := writePpuCtrl s.ppu v }
  | 1 => { s with ppu := { s.ppu with mask := v } }
  | 3 => { s with ppu := { s.ppu with oamAddr := v } }
  | 4 => { s with ppu := writeOamData s.ppu v }
  | 5 => { s with ppu := writeScroll s.ppu v }
  | 6 => { s with ppu := writeAddr s.ppu v }
  | 7 =>
    let t := ppuWrite s (vramBusAddr s.ppu) v
    { t with ppu := { t.ppu with vramAddr := t.ppu.vramAddr + vramIncrement t.ppu } }
  | _ => s

end Sys2Proof.Machine
end

