-- ==== Sys2Proof/Machine/Ops.lean ====
section
/-! DEFINITION. The named operations of the CPU: the bus (spec/20_memory.md rules R71 to R79), the controllers
(spec/61_clock_dma.md rules R350, R351), the stack, interrupt entry and the return from it
(spec/60_exceptions.md rules R303, R311). -/

namespace Sys2Proof.Machine

/-! ### Controllers -/

/-- `poll()`: the buttons are latched into the shift register (rule R350). -/
def Pad.poll (p : Pad) : Pad := { p with shift := p.buttons }

/-- The bit a read returns, as a byte (rule R351). -/
def Pad.value (p : Pad) : Byte := (BitVec.ofBool (bit p.shift 7)).zeroExtend 8

/-- The side effect of a read: zeros are shifted in (rule R351). -/
def Pad.afterRead (p : Pad) : Pad := { p with shift := p.shift <<< 1 }

/-! ### The console bus (rule R75) -/

/-- The work RAM index of a CPU address: `a mod 2048` (rule R76). -/
def ramIndex (a : Word) : Nat := a.toNat % Config.ramSize

/-- `try_read_readonly` of the console bus (rules R75 to R79). -/
def consoleTryRead (s : State) (a : Word) : Option Byte :=
  if a.toNat < 0x2000 then some (s.ram.read (ramIndex a))
  else if a.toNat < 0x4000 then portTryRead s (a.toNat % 8)
  else if a.toNat = 0x4015 then some s.apu.status
  else if a.toNat = 0x4016 then some s.pad0.value
  else if a.toNat = 0x4017 then some s.pad1.value
  else none

/-- `read_side_effects` of the console bus (rules R77, R78, R83). -/
def consoleReadEffects (s : State) (a : Word) : State :=
  if a.toNat < 0x2000 then s
  else if a.toNat < 0x4000 then portReadEffects s (a.toNat % 8)
  else if a.toNat = 0x4015 then { s with apu := s.apu.afterStatusRead }
  else if a.toNat = 0x4016 then { s with pad0 := s.pad0.afterRead }
  else if a.toNat = 0x4017 then { s with pad1 := s.pad1.afterRead }
  else s

/-- The OAM DMA trigger (rule R345). -/
def triggerDma (d : Dma) (v : Byte) : Dma := { d with page := v, addr := 0, transfer := true }

/-- `write` of the console bus; what nothing claims is ignored (rules R72, R75 to R79). -/
def consoleWrite (s : State) (a : Word) (v : Byte) : State :=
  if a.toNat < 0x2000 then { s with ram := s.ram.write (ramIndex a) v }
  else if a.toNat < 0x4000 then portWrite s (a.toNat % 8) v
  else if a.toNat = 0x4014 then { s with dma := triggerDma s.dma v }
  else if a.toNat = 0x4016 then { s with pad0 := s.pad0.poll, pad1 := s.pad1.poll }
  else if a.toNat ≤ 0x4017 then { s with apu := s.apu.write (a.toNat - 0x4000) v }
  else s

/-! ### The CPU bus behind the interceptor (rules R71 to R74) -/

/-- `try_read_readonly(a)`: the cartridge first, the console bus if it declines. -/
def tryRead (s : State) (a : Word) : Option Byte :=
  match s.cart.cpuTryRead a with
  | some v => some v
  | none => consoleTryRead s a

/-- `read_side_effects(a)`: those of the component that answers the read (DEDUCED, log entry 6). -/
def readEffects (s : State) (a : Word) : State :=
  if (s.cart.cpuTryRead a).isSome then { s with cart := s.cart.readEffects a } else consoleReadEffects s a

/-- A side-effect-free observation of a byte (rule R94); an unclaimed address reads 0 (rule R73). -/
def peek (s : State) (a : Word) : Byte := (tryRead s a).getD 0

/-- `MemRead(a, 1)`: the value before the side effects, then the side effects once (rule R71). -/
def memRead (s : State) (a : Word) : Byte × State := (peek s a, readEffects s a)

/-- `MemWrite(a, 1, v)` (rule R72). -/
def memWrite (s : State) (a : Word) (v : Byte) : State :=
  match s.cart.cpuWrite a v with
  | some c => { s with cart := c }
  | none => consoleWrite s a v

/-- `MemRead(a, 2)`: low byte then high byte, two accesses (rules R9, R80). -/
def memRead16 (s : State) (a : Word) : Word × State :=
  let lo := memRead s a
  let hi := memRead lo.2 (a + 1)
  (hilo hi.1 lo.1, hi.2)

/-! ### Registers and stack -/

/-- The state with other CPU registers. -/
def State.withCpu (s : State) (c : Cpu) : State := { s with cpu := c }

/-- `PC <- a`. -/
def jumpTo (s : State) (a : Word) : State := s.withCpu { s.cpu with pc := a }

/-- `wait_cycles <- n`. -/
def setWait (s : State) (n : Nat) : State := s.withCpu { s.cpu with waitCycles := n }

/-- `wait_cycles <- wait_cycles + 1`. -/
def addWait (s : State) : State := s.withCpu { s.cpu with waitCycles := s.cpu.waitCycles + 1 }

/-- `Fetch()`: the byte at `PC`, and `PC` advanced modulo 65536 (rules R9, R23). -/
def fetchByte (s : State) : Byte × State :=
  let r := memRead s s.cpu.pc
  (r.1, jumpTo r.2 (r.2.cpu.pc + 1))

/-- The address a push writes: `0x0100 + S` (rules R9, R21). -/
def stackAddr (sp : Byte) : Word := 0x0100 + zext16 sp

/-- `Push(v)` (rule R9). -/
def push (s : State) (v : Byte) : State :=
  let t := memWrite s (stackAddr s.cpu.s) v
  t.withCpu { t.cpu with s := t.cpu.s - 1 }

/-- `Pop()` (rule R9). -/
def pop (s : State) : Byte × State :=
  let t := s.withCpu { s.cpu with s := s.cpu.s + 1 }
  memRead t (stackAddr t.cpu.s)

/-- Push a 16-bit value, high byte first (rule R80). -/
def push16 (s : State) (w : Word) : State := push (push s (highByte w)) (lowByte w)

/-- Pop a 16-bit value, low byte first. -/
def pop16 (s : State) : Word × State :=
  let lo := pop s
  let hi := pop lo.2
  (hilo hi.1 lo.1, hi.2)

/-! ### Interrupt entry and return -/

/-- The part that NMI, IRQ and BRK share: push the return address and the status byte with bit 4 = `b`,
set `I`, load `PC` from the vector (rules R226, R303). -/
def enterHandler (s : State) (ret : Word) (b : Bool) (vector : Word) : State :=
  let s1 := push16 s ret
  let s2 := push s1 (s1.cpu.pbyte b)
  let s3 := s2.withCpu { s2.cpu with i := true }
  let v := memRead16 s3 vector
  jumpTo v.2 v.1

/-- `InterruptEntry(vector)` of rule R303: the pushed bit 4 is the stored `B`, which is then cleared;
6 wait cycles. -/
def interruptEntry (s : State) (vector : Word) : State :=
  let t := enterHandler s s.cpu.pc s.cpu.b vector
  t.withCpu { t.cpu with b := false, waitCycles := Config.entryWait }

/-- Return from interrupt: status, then `PC` low, then `PC` high (rules R228, R311). -/
def interruptReturn (s : State) : State :=
  let p := pop s
  let s1 := p.2.withCpu (p.2.cpu.setP p.1)
  let r := pop16 s1
  jumpTo r.2 r.1

end Sys2Proof.Machine
end

