-- ==== Sys2Proof/Machine/HostInput.lean ====
section
/-! DEFINITION. What the host can do between master ticks (spec/61_clock_dma.md rules R352, R353) and the reset
procedure (spec/70_reset_and_hazards.md rules R500 to R504); how an opcode-table word is put before the
fetch. -/

namespace Sys2Proof.Machine

/-- The part of the reset procedure that every reset does (rule R502). -/
def resetVectorOnly (s : State) : State :=
  let v := memRead16 s Config.resetVector
  { v.2 with
    cpu :=
      { v.2.cpu with pc := v.1, waitCycles := v.2.cfg.resetWait, nmiLatch := false, irqLatch := false }
    dma := { v.2.dma with transfer := false, dummy := true } }

/-- The reset procedure at a reset request (rules R501, R502). -/
def resetProcedure (s : State) : State :=
  let t := resetVectorOnly s
  match t.cfg.warmReset with
  | .vectorOnly => t
  | .hardware6502 => t.withCpu { t.cpu with s := t.cpu.s - 3, i := true }

/-- Power-on (rule R500): every field at its power-on value, then the reset procedure once.
`WarmResetEffect` says what a reset request changes; power-on leaves `S = 0xFD` and `I = 1` under either
value (rule R65; DEDUCED, log entry 12). -/
def boot (cfg : Config) (cart : Cart) (ram oam nametable palette : Memory) : State :=
  resetVectorOnly (State.powerOn cfg cart ram oam nametable palette)

/-- The host's inputs (rules R352, R353). -/
inductive HostInput where
  /-- A reset request (rule R501). -/
  | reset
  /-- New button states for both controllers (rule R349). -/
  | buttons (pad0 pad1 : Byte)
  /-- A forced `PC`, for the golden trace (rules R353, R504). -/
  | forcePc (a : Word)
  deriving DecidableEq, Repr

/-- A host input, between master ticks (rule R353; DESIGN CHOICE, log entry 15). -/
def hostInput (h : HostInput) (s : State) : State :=
  match h with
  | .reset => resetProcedure s
  | .buttons b0 b1 => { s with pad0 := { s.pad0 with buttons := b0 }, pad1 := { s.pad1 with buttons := b1 } }
  | .forcePc a => jumpTo s a

/-- The cartridge with bytes put at `a` and above, in memory that it claims from 0x8000 up; a cartridge whose
behaviour is not given is replaced. -/
def Cart.place (c : Cart) (a : Nat) (bytes : List Byte) : Cart :=
  let b :=
    match c with
    | .board b => b
    | .mapper _ => .empty
  .board { b with cpu := b.cpu.fill a bytes, cpuBase := min b.cpuBase 0x8000 }

/-- Store the bytes of an opcode-table word where the next step fetches, and set what that fetch needs: a
CPU-cadence master tick, no transfer, no countdown, no interrupt to service, a `PC` in memory of the cartridge, a
cursor off the dot that requests an NMI (DESIGN CHOICE, log entry 16). -/
def placeWord (s : State) (nbits w : Nat) : State :=
  { s with
    cpu :=
      { s.cpu with pc := 0x8000, waitCycles := 0, nmiLatch := false, irqLatch := s.cpu.irqLatch && s.cpu.i }
    dma := { s.dma with transfer := false }
    master := s.master - s.master % Config.cpuDiv
    cart := s.cart.place 0x8000 (tableBytes nbits w)
    ppu := if s.ppu.scanline = 241 ∧ s.ppu.cycle = 1 then { s.ppu with cycle := 2 } else s.ppu }

end Sys2Proof.Machine
end

