-- ==== Sys2Proof/Machine/Operands.lean ====
section
/-! DEFINITION. Operand forms (spec/30_encoding.md rules R120 to R131) and the instruction shapes over them:
implied, accumulator, read, write, read-modify-write and branch.  The operand bytes are those the fetch has
already read (rule R84 steps 1 and 2); resolving an operand reads only pointers (step 3). -/

namespace Sys2Proof.Machine

/-- A memory operand with its operand bytes. -/
inductive Operand where
  /-- IMM `#$nn` (R122). -/
  | imm (d : Byte)
  /-- ZP `$nn` (R123). -/
  | zp (d : Byte)
  /-- ZPX `$nn,X` (R124). -/
  | zpx (d : Byte)
  /-- ZPY `$nn,Y` (R125). -/
  | zpy (d : Byte)
  /-- ABS `$nnnn` (R126). -/
  | abs (w : Word)
  /-- ABX `$nnnn,X` (R126). -/
  | abx (w : Word)
  /-- ABY `$nnnn,Y` (R126). -/
  | aby (w : Word)
  /-- IZX `($nn,X)` (R128). -/
  | izx (d : Byte)
  /-- IZY `($nn),Y` (R129). -/
  | izy (d : Byte)
  deriving DecidableEq, Repr

/-- What resolving gives: the effective address, whether indexing crossed a page, and the state after the
pointer reads. -/
structure Resolved where
  ea : Word
  crossed : Bool
  st : State
  deriving DecidableEq, Repr

/-- The effective address of an absolute indexed or indirect indexed operand, and whether the high byte of
the sum differs from that of the base (rules R126, R129, R130). -/
def indexed (base : Word) (idx : Byte) (s : State) : Resolved :=
  let ea := base + zext16 idx
  ⟨ea, page ea != page base, s⟩

/-- A pointer in the zero page: both bytes come from the zero page, the second address wrapping modulo 256
(rules R128, R129). -/
def zeroPagePointer (s : State) (z : Byte) : Word × State :=
  let lo := memRead s (zext16 z)
  let hi := memRead lo.2 (zext16 (z + 1))
  (hilo hi.1 lo.1, hi.2)

/-- `Resolve` for the memory modes (rules R122 to R126, R128, R129). -/
def resolve (o : Operand) (s : State) : Resolved :=
  match o with
  | .imm _ => ⟨s.cpu.pc - 1, false, s⟩
  | .zp d => ⟨zext16 d, false, s⟩
  | .zpx d => ⟨zext16 (d + s.cpu.x), false, s⟩
  | .zpy d => ⟨zext16 (d + s.cpu.y), false, s⟩
  | .abs w => ⟨w, false, s⟩
  | .abx w => indexed w s.cpu.x s
  | .aby w => indexed w s.cpu.y s
  | .izx d =>
    let p := zeroPagePointer s (d + s.cpu.x)
    ⟨p.1, false, p.2⟩
  | .izy d =>
    let p := zeroPagePointer s d
    indexed p.1 p.2.cpu.y p.2

/-- The data read of a resolved operand (rule R84 step 4).  An immediate operand is read as its operand byte
by the fetch, so it is not read again (rule R85). -/
def operandRead (o : Operand) (r : Resolved) : Byte × State :=
  match o with
  | .imm d => (d, r.st)
  | _ => memRead r.st r.ea

/-- The JMP indirect target (rule R127): the pointer's high byte is fetched without carrying into the page. -/
def indirectTarget (s : State) (ptr : Word) : Word × State :=
  let tl := memRead s ptr
  let th := memRead tl.2 (hilo (page ptr) (offset ptr + 1))
  (hilo th.1 tl.1, th.2)

/-- The branch target of REL (rule R131): the displacement added to the `PC` past the operand. -/
def branchTarget (s : State) (d : Byte) : Word := s.cpu.pc + sext16 d

/-! ### Instruction shapes

`base` is the row's base cycle count (rule R119); `wait_cycles` is loaded with `base - 1` before the operand
is resolved (rule R114). -/

/-- Implied: registers and flags only. -/
def runImplied (base : Nat) (f : Cpu → Cpu) (s : State) : State :=
  let s1 := setWait s (base - 1)
  s1.withCpu (f s1.cpu)

/-- Accumulator form of a shift or rotate: the result goes to `A` and sets Z and N (rules R121, R200). -/
def runAcc (base : Nat) (f : Byte → Cpu → Byte × Cpu) (s : State) : State :=
  runImplied base (fun c => let r := f c.a c; r.2.loadA r.1) s

/-- `Resolve` with the base cycles charged and, where the row has `pen`, one more on a page crossing
(rules R114, R130). -/
def resolveCharged (base : Nat) (pen : Bool) (o : Operand) (s : State) : Resolved :=
  let r := resolve o (setWait s (base - 1))
  { r with st := if pen && r.crossed then addWait r.st else r.st }

/-- Read one operand byte and use it on the registers (rules R150, R180). -/
def runRead (base : Nat) (pen : Bool) (o : Operand) (f : Byte → Cpu → Cpu) (s : State) : State :=
  let m := operandRead o (resolveCharged base pen o s)
  m.2.withCpu (f m.1 m.2.cpu)

/-- Write one byte made from the registers; the target is not read (rules R85, R154). -/
def runWrite (base : Nat) (o : Operand) (val : Cpu → Byte) (s : State) : State :=
  let r := resolveCharged base false o s
  memWrite r.st r.ea (val r.st.cpu)

/-- Read, modify, write, then `g` on the written byte (rules R200, R265): one read and one write of `ea`. -/
def runRmw (base : Nat) (o : Operand) (f : Byte → Cpu → Byte × Cpu) (g : Byte → Cpu → Cpu) (s : State) :
    State :=
  let r := resolveCharged base false o s
  let m := memRead r.st r.ea
  let q := f m.1 m.2.cpu
  let t := memWrite (m.2.withCpu q.2) r.ea q.1
  t.withCpu (g q.1 t.cpu)

/-- The eight branches (rules R230, R232). -/
def runBranch (base : Nat) (d : Byte) (cond : Cpu → Bool) (s : State) : State :=
  let s1 := setWait s (base - 1)
  let ea := branchTarget s1 d
  if cond s1.cpu then
    let s2 := addWait s1
    let s3 := if page ea != page s2.cpu.pc then addWait s2 else s2
    jumpTo s3 ea
  else s1

end Sys2Proof.Machine
end

