-- ==== Sys2Proof/Machine/Alu.lean ====
section
/-! DEFINITION. The meanings of arithmetic, logic, compare and bit test (spec/41_alu.md rules R180 to R192).
One definition per row of the opcode table, each over a shared shape of Machine/Operands.lean. -/

namespace Sys2Proof.Machine

/-- ADC IZX, 0x61 (rule R183). -/
def execAdcIzx (d : Byte) (s : State) : Host.Outcome State Fault Refusal :=
  .next (runRead 6 false (.izx d) (fun m c => c.addWithCarry m) s)

/-- ADC ZP, 0x65 (rule R183). -/
def execAdcZp (d : Byte) (s : State) : Host.Outcome State Fault Refusal :=
  .next (runRead 3 false (.zp d) (fun m c => c.addWithCarry m) s)

/-- ADC IMM, 0x69 (rule R183). -/
def execAdcImm (d : Byte) (s : State) : Host.Outcome State Fault Refusal :=
  .next (runRead 2 false (.imm d) (fun m c => c.addWithCarry m) s)

/-- ADC ABS, 0x6D (rule R183). -/
def execAdcAbs (w : Word) (s : State) : Host.Outcome State Fault Refusal :=
  .next (runRead 4 false (.abs w) (fun m c => c.addWithCarry m) s)

/-- ADC IZY, 0x71 (rule R183). -/
def execAdcIzy (d : Byte) (s : State) : Host.Outcome State Fault Refusal :=
  .next (runRead 5 true (.izy d) (fun m c => c.addWithCarry m) s)

/-- ADC ZPX, 0x75 (rule R183). -/
def execAdcZpx (d : Byte) (s : State) : Host.Outcome State Fault Refusal :=
  .next (runRead 4 false (.zpx d) (fun m c => c.addWithCarry m) s)

/-- ADC ABY, 0x79 (rule R183). -/
def execAdcAby (w : Word) (s : State) : Host.Outcome State Fault Refusal :=
  .next (runRead 4 true (.aby w) (fun m c => c.addWithCarry m) s)

/-- ADC ABX, 0x7D (rule R183). -/
def execAdcAbx (w : Word) (s : State) : Host.Outcome State Fault Refusal :=
  .next (runRead 4 true (.abx w) (fun m c => c.addWithCarry m) s)

/-- SBC IZX, 0xE1 (rule R184). -/
def execSbcIzx (d : Byte) (s : State) : Host.Outcome State Fault Refusal :=
  .next (runRead 6 false (.izx d) (fun m c => c.subWithBorrow m) s)

/-- SBC ZP, 0xE5 (rule R184). -/
def execSbcZp (d : Byte) (s : State) : Host.Outcome State Fault Refusal :=
  .next (runRead 3 false (.zp d) (fun m c => c.subWithBorrow m) s)

/-- SBC IMM, 0xE9 (rule R184). -/
def execSbcImm (d : Byte) (s : State) : Host.Outcome State Fault Refusal :=
  .next (runRead 2 false (.imm d) (fun m c => c.subWithBorrow m) s)

/-- SBC ABS, 0xED (rule R184). -/
def execSbcAbs (w : Word) (s : State) : Host.Outcome State Fault Refusal :=
  .next (runRead 4 false (.abs w) (fun m c => c.subWithBorrow m) s)

/-- SBC IZY, 0xF1 (rule R184). -/
def execSbcIzy (d : Byte) (s : State) : Host.Outcome State Fault Refusal :=
  .next (runRead 5 true (.izy d) (fun m c => c.subWithBorrow m) s)

/-- SBC ZPX, 0xF5 (rule R184). -/
def execSbcZpx (d : Byte) (s : State) : Host.Outcome State Fault Refusal :=
  .next (runRead 4 false (.zpx d) (fun m c => c.subWithBorrow m) s)

/-- SBC ABY, 0xF9 (rule R184). -/
def execSbcAby (w : Word) (s : State) : Host.Outcome State Fault Refusal :=
  .next (runRead 4 true (.aby w) (fun m c => c.subWithBorrow m) s)

/-- SBC ABX, 0xFD (rule R184). -/
def execSbcAbx (w : Word) (s : State) : Host.Outcome State Fault Refusal :=
  .next (runRead 4 true (.abx w) (fun m c => c.subWithBorrow m) s)

/-- AND IZX, 0x21 (rule R185). -/
def execAndIzx (d : Byte) (s : State) : Host.Outcome State Fault Refusal :=
  .next (runRead 6 false (.izx d) (fun m c => c.loadA (c.a &&& m)) s)

/-- AND ZP, 0x25 (rule R185). -/
def execAndZp (d : Byte) (s : State) : Host.Outcome State Fault Refusal :=
  .next (runRead 3 false (.zp d) (fun m c => c.loadA (c.a &&& m)) s)

/-- AND IMM, 0x29 (rule R185). -/
def execAndImm (d : Byte) (s : State) : Host.Outcome State Fault Refusal :=
  .next (runRead 2 false (.imm d) (fun m c => c.loadA (c.a &&& m)) s)

/-- AND ABS, 0x2D (rule R185). -/
def execAndAbs (w : Word) (s : State) : Host.Outcome State Fault Refusal :=
  .next (runRead 4 false (.abs w) (fun m c => c.loadA (c.a &&& m)) s)

/-- AND IZY, 0x31 (rule R185). -/
def execAndIzy (d : Byte) (s : State) : Host.Outcome State Fault Refusal :=
  .next (runRead 5 true (.izy d) (fun m c => c.loadA (c.a &&& m)) s)

/-- AND ZPX, 0x35 (rule R185). -/
def execAndZpx (d : Byte) (s : State) : Host.Outcome State Fault Refusal :=
  .next (runRead 4 false (.zpx d) (fun m c => c.loadA (c.a &&& m)) s)

/-- AND ABY, 0x39 (rule R185). -/
def execAndAby (w : Word) (s : State) : Host.Outcome State Fault Refusal :=
  .next (runRead 4 true (.aby w) (fun m c => c.loadA (c.a &&& m)) s)

/-- AND ABX, 0x3D (rule R185). -/
def execAndAbx (w : Word) (s : State) : Host.Outcome State Fault Refusal :=
  .next (runRead 4 true (.abx w) (fun m c => c.loadA (c.a &&& m)) s)

/-- ORA IZX, 0x01 (rule R186). -/
def execOraIzx (d : Byte) (s : State) : Host.Outcome State Fault Refusal :=
  .next (runRead 6 false (.izx d) (fun m c => c.loadA (c.a ||| m)) s)

/-- ORA ZP, 0x05 (rule R186). -/
def execOraZp (d : Byte) (s : State) : Host.Outcome State Fault Refusal :=
  .next (runRead 3 false (.zp d) (fun m c => c.loadA (c.a ||| m)) s)

/-- ORA IMM, 0x09 (rule R186). -/
def execOraImm (d : Byte) (s : State) : Host.Outcome State Fault Refusal :=
  .next (runRead 2 false (.imm d) (fun m c => c.loadA (c.a ||| m)) s)

/-- ORA ABS, 0x0D (rule R186). -/
def execOraAbs (w : Word) (s : State) : Host.Outcome State Fault Refusal :=
  .next (runRead 4 false (.abs w) (fun m c => c.loadA (c.a ||| m)) s)

/-- ORA IZY, 0x11 (rule R186). -/
def execOraIzy (d : Byte) (s : State) : Host.Outcome State Fault Refusal :=
  .next (runRead 5 true (.izy d) (fun m c => c.loadA (c.a ||| m)) s)

/-- ORA ZPX, 0x15 (rule R186). -/
def execOraZpx (d : Byte) (s : State) : Host.Outcome State Fault Refusal :=
  .next (runRead 4 false (.zpx d) (fun m c => c.loadA (c.a ||| m)) s)

/-- ORA ABY, 0x19 (rule R186). -/
def execOraAby (w : Word) (s : State) : Host.Outcome State Fault Refusal :=
  .next (runRead 4 true (.aby w) (fun m c => c.loadA (c.a ||| m)) s)

/-- ORA ABX, 0x1D (rule R186). -/
def execOraAbx (w : Word) (s : State) : Host.Outcome State Fault Refusal :=
  .next (runRead 4 true (.abx w) (fun m c => c.loadA (c.a ||| m)) s)

/-- EOR IZX, 0x41 (rule R187). -/
def execEorIzx (d : Byte) (s : State) : Host.Outcome State Fault Refusal :=
  .next (runRead 6 false (.izx d) (fun m c => c.loadA (c.a ^^^ m)) s)

/-- EOR ZP, 0x45 (rule R187). -/
def execEorZp (d : Byte) (s : State) : Host.Outcome State Fault Refusal :=
  .next (runRead 3 false (.zp d) (fun m c => c.loadA (c.a ^^^ m)) s)

/-- EOR IMM, 0x49 (rule R187). -/
def execEorImm (d : Byte) (s : State) : Host.Outcome State Fault Refusal :=
  .next (runRead 2 false (.imm d) (fun m c => c.loadA (c.a ^^^ m)) s)

/-- EOR ABS, 0x4D (rule R187). -/
def execEorAbs (w : Word) (s : State) : Host.Outcome State Fault Refusal :=
  .next (runRead 4 false (.abs w) (fun m c => c.loadA (c.a ^^^ m)) s)

/-- EOR IZY, 0x51 (rule R187). -/
def execEorIzy (d : Byte) (s : State) : Host.Outcome State Fault Refusal :=
  .next (runRead 5 true (.izy d) (fun m c => c.loadA (c.a ^^^ m)) s)

/-- EOR ZPX, 0x55 (rule R187). -/
def execEorZpx (d : Byte) (s : State) : Host.Outcome State Fault Refusal :=
  .next (runRead 4 false (.zpx d) (fun m c => c.loadA (c.a ^^^ m)) s)

/-- EOR ABY, 0x59 (rule R187). -/
def execEorAby (w : Word) (s : State) : Host.Outcome State Fault Refusal :=
  .next (runRead 4 true (.aby w) (fun m c => c.loadA (c.a ^^^ m)) s)

/-- EOR ABX, 0x5D (rule R187). -/
def execEorAbx (w : Word) (s : State) : Host.Outcome State Fault Refusal :=
  .next (runRead 4 true (.abx w) (fun m c => c.loadA (c.a ^^^ m)) s)

/-- CMP IZX, 0xC1 (rule R189). -/
def execCmpIzx (d : Byte) (s : State) : Host.Outcome State Fault Refusal :=
  .next (runRead 6 false (.izx d) (fun m c => c.compare c.a m) s)

/-- CMP ZP, 0xC5 (rule R189). -/
def execCmpZp (d : Byte) (s : State) : Host.Outcome State Fault Refusal :=
  .next (runRead 3 false (.zp d) (fun m c => c.compare c.a m) s)

/-- CMP IMM, 0xC9 (rule R189). -/
def execCmpImm (d : Byte) (s : State) : Host.Outcome State Fault Refusal :=
  .next (runRead 2 false (.imm d) (fun m c => c.compare c.a m) s)

/-- CMP ABS, 0xCD (rule R189). -/
def execCmpAbs (w : Word) (s : State) : Host.Outcome State Fault Refusal :=
  .next (runRead 4 false (.abs w) (fun m c => c.compare c.a m) s)

/-- CMP IZY, 0xD1 (rule R189). -/
def execCmpIzy (d : Byte) (s : State) : Host.Outcome State Fault Refusal :=
  .next (runRead 5 true (.izy d) (fun m c => c.compare c.a m) s)

/-- CMP ZPX, 0xD5 (rule R189). -/
def execCmpZpx (d : Byte) (s : State) : Host.Outcome State Fault Refusal :=
  .next (runRead 4 false (.zpx d) (fun m c => c.compare c.a m) s)

/-- CMP ABY, 0xD9 (rule R189). -/
def execCmpAby (w : Word) (s : State) : Host.Outcome State Fault Refusal :=
  .next (runRead 4 true (.aby w) (fun m c => c.compare c.a m) s)

/-- CMP ABX, 0xDD (rule R189). -/
def execCmpAbx (w : Word) (s : State) : Host.Outcome State Fault Refusal :=
  .next (runRead 4 true (.abx w) (fun m c => c.compare c.a m) s)

/-- CPX IMM, 0xE0 (rule R190). -/
def execCpxImm (d : Byte) (s : State) : Host.Outcome State Fault Refusal :=
  .next (runRead 2 false (.imm d) (fun m c => c.compare c.x m) s)

/-- CPX ZP, 0xE4 (rule R190). -/
def execCpxZp (d : Byte) (s : State) : Host.Outcome State Fault Refusal :=
  .next (runRead 3 false (.zp d) (fun m c => c.compare c.x m) s)

/-- CPX ABS, 0xEC (rule R190). -/
def execCpxAbs (w : Word) (s : State) : Host.Outcome State Fault Refusal :=
  .next (runRead 4 false (.abs w) (fun m c => c.compare c.x m) s)

/-- CPY IMM, 0xC0 (rule R191). -/
def execCpyImm (d : Byte) (s : State) : Host.Outcome State Fault Refusal :=
  .next (runRead 2 false (.imm d) (fun m c => c.compare c.y m) s)

/-- CPY ZP, 0xC4 (rule R191). -/
def execCpyZp (d : Byte) (s : State) : Host.Outcome State Fault Refusal :=
  .next (runRead 3 false (.zp d) (fun m c => c.compare c.y m) s)

/-- CPY ABS, 0xCC (rule R191). -/
def execCpyAbs (w : Word) (s : State) : Host.Outcome State Fault Refusal :=
  .next (runRead 4 false (.abs w) (fun m c => c.compare c.y m) s)

/-- BIT ZP, 0x24 (rule R192). -/
def execBitZp (d : Byte) (s : State) : Host.Outcome State Fault Refusal :=
  .next (runRead 3 false (.zp d) (fun m c => c.bitTest m) s)

/-- BIT ABS, 0x2C (rule R192). -/
def execBitAbs (w : Word) (s : State) : Host.Outcome State Fault Refusal :=
  .next (runRead 4 false (.abs w) (fun m c => c.bitTest m) s)

end Sys2Proof.Machine
end

