-- ==== Sys2Proof/Machine/Control.lean ====
section
/-! DEFINITION. The meanings of jumps, subroutines, branches, BRK and RTI, flag instructions, NOP (spec/43_control.md rules R220 to R249).
One definition per row of the opcode table, each over a shared shape of Machine/Operands.lean. -/

namespace Sys2Proof.Machine

/-- JMP ABS, 0x4C (rule R221). -/
def execJmpAbs (w : Word) (s : State) : Host.Outcome State Fault Refusal :=
  .next (jumpTo (setWait s 2) w)

/-- JMP IND, 0x6C (rule R221). -/
def execJmpInd (w : Word) (s : State) : Host.Outcome State Fault Refusal :=
  let t := indirectTarget (setWait s 4) w
  .next (jumpTo t.2 t.1)

/-- JSR ABS, 0x20 (rule R222). -/
def execJsr (w : Word) (s : State) : Host.Outcome State Fault Refusal :=
  let s1 := setWait s 5
  .next (jumpTo (push16 s1 (s1.cpu.pc - 1)) w)

/-- RTS, 0x60 (rule R223). -/
def execRts (s : State) : Host.Outcome State Fault Refusal :=
  let r := pop16 (setWait s 5)
  .next (jumpTo r.2 (r.1 + 1))

/-- BRK, 0x00 (rule R226). -/
def execBrk (s : State) : Host.Outcome State Fault Refusal :=
  let s1 := setWait s 6
  .next (enterHandler s1 (s1.cpu.pc + 1) true Config.irqVector)

/-- RTI, 0x40 (rule R228). -/
def execRti (s : State) : Host.Outcome State Fault Refusal :=
  .next (interruptReturn (setWait s 5))

/-- BCC REL, 0x90 (rule R233). -/
def execBcc (d : Byte) (s : State) : Host.Outcome State Fault Refusal :=
  .next (runBranch 2 d (fun c => !c.c) s)

/-- BCS REL, 0xB0 (rule R234). -/
def execBcs (d : Byte) (s : State) : Host.Outcome State Fault Refusal :=
  .next (runBranch 2 d (fun c => c.c) s)

/-- BEQ REL, 0xF0 (rule R235). -/
def execBeq (d : Byte) (s : State) : Host.Outcome State Fault Refusal :=
  .next (runBranch 2 d (fun c => c.z) s)

/-- BNE REL, 0xD0 (rule R236). -/
def execBne (d : Byte) (s : State) : Host.Outcome State Fault Refusal :=
  .next (runBranch 2 d (fun c => !c.z) s)

/-- BMI REL, 0x30 (rule R237). -/
def execBmi (d : Byte) (s : State) : Host.Outcome State Fault Refusal :=
  .next (runBranch 2 d (fun c => c.n) s)

/-- BPL REL, 0x10 (rule R238). -/
def execBpl (d : Byte) (s : State) : Host.Outcome State Fault Refusal :=
  .next (runBranch 2 d (fun c => !c.n) s)

/-- BVC REL, 0x50 (rule R239). -/
def execBvc (d : Byte) (s : State) : Host.Outcome State Fault Refusal :=
  .next (runBranch 2 d (fun c => !c.v) s)

/-- BVS REL, 0x70 (rule R240). -/
def execBvs (d : Byte) (s : State) : Host.Outcome State Fault Refusal :=
  .next (runBranch 2 d (fun c => c.v) s)

/-- CLC, 0x18 (rule R241). -/
def execClc (s : State) : Host.Outcome State Fault Refusal :=
  .next (runImplied 2 (fun c => { c with c := false }) s)

/-- SEC, 0x38 (rule R242). -/
def execSec (s : State) : Host.Outcome State Fault Refusal :=
  .next (runImplied 2 (fun c => { c with c := true }) s)

/-- CLI, 0x58 (rule R243). -/
def execCli (s : State) : Host.Outcome State Fault Refusal :=
  .next (runImplied 2 (fun c => { c with i := false }) s)

/-- SEI, 0x78 (rule R244). -/
def execSei (s : State) : Host.Outcome State Fault Refusal :=
  .next (runImplied 2 (fun c => { c with i := true }) s)

/-- CLV, 0xB8 (rule R245). -/
def execClv (s : State) : Host.Outcome State Fault Refusal :=
  .next (runImplied 2 (fun c => { c with v := false }) s)

/-- CLD, 0xD8 (rule R246). -/
def execCld (s : State) : Host.Outcome State Fault Refusal :=
  .next (runImplied 2 (fun c => { c with d := false }) s)

/-- SED, 0xF8 (rule R247). -/
def execSed (s : State) : Host.Outcome State Fault Refusal :=
  .next (runImplied 2 (fun c => { c with d := true }) s)

/-- NOP, 0xEA (rule R248). -/
def execNop (s : State) : Host.Outcome State Fault Refusal :=
  .next (runImplied 2 (fun c => c) s)

end Sys2Proof.Machine
end

