-- ==== Sys2Proof/Machine/LoadStore.lean ====
section
/-! DEFINITION. The meanings of loads, stores, register transfers, pushes and pulls (spec/40_load_store_transfer.md rules R150 to R168).
One definition per row of the opcode table, each over a shared shape of Machine/Operands.lean. -/

namespace Sys2Proof.Machine

/-- LDA IZX, 0xA1 (rule R151). -/
def execLdaIzx (d : Byte) (s : State) : Host.Outcome State Fault Refusal :=
  .next (runRead 6 false (.izx d) (fun m c => c.loadA m) s)

/-- LDA ZP, 0xA5 (rule R151). -/
def execLdaZp (d : Byte) (s : State) : Host.Outcome State Fault Refusal :=
  .next (runRead 3 false (.zp d) (fun m c => c.loadA m) s)

/-- LDA IMM, 0xA9 (rule R151). -/
def execLdaImm (d : Byte) (s : State) : Host.Outcome State Fault Refusal :=
  .next (runRead 2 false (.imm d) (fun m c => c.loadA m) s)

/-- LDA ABS, 0xAD (rule R151). -/
def execLdaAbs (w : Word) (s : State) : Host.Outcome State Fault Refusal :=
  .next (runRead 4 false (.abs w) (fun m c => c.loadA m) s)

/-- LDA IZY, 0xB1 (rule R151). -/
def execLdaIzy (d : Byte) (s : State) : Host.Outcome State Fault Refusal :=
  .next (runRead 5 true (.izy d) (fun m c => c.loadA m) s)

/-- LDA ZPX, 0xB5 (rule R151). -/
def execLdaZpx (d : Byte) (s : State) : Host.Outcome State Fault Refusal :=
  .next (runRead 4 false (.zpx d) (fun m c => c.loadA m) s)

/-- LDA ABY, 0xB9 (rule R151). -/
def execLdaAby (w : Word) (s : State) : Host.Outcome State Fault Refusal :=
  .next (runRead 4 true (.aby w) (fun m c => c.loadA m) s)

/-- LDA ABX, 0xBD (rule R151). -/
def execLdaAbx (w : Word) (s : State) : Host.Outcome State Fault Refusal :=
  .next (runRead 4 true (.abx w) (fun m c => c.loadA m) s)

/-- LDX IMM, 0xA2 (rule R152). -/
def execLdxImm (d : Byte) (s : State) : Host.Outcome State Fault Refusal :=
  .next (runRead 2 false (.imm d) (fun m c => c.loadX m) s)

/-- LDX ZP, 0xA6 (rule R152). -/
def execLdxZp (d : Byte) (s : State) : Host.Outcome State Fault Refusal :=
  .next (runRead 3 false (.zp d) (fun m c => c.loadX m) s)

/-- LDX ABS, 0xAE (rule R152). -/
def execLdxAbs (w : Word) (s : State) : Host.Outcome State Fault Refusal :=
  .next (runRead 4 false (.abs w) (fun m c => c.loadX m) s)

/-- LDX ZPY, 0xB6 (rule R152). -/
def execLdxZpy (d : Byte) (s : State) : Host.Outcome State Fault Refusal :=
  .next (runRead 4 false (.zpy d) (fun m c => c.loadX m) s)

/-- LDX ABY, 0xBE (rule R152). -/
def execLdxAby (w : Word) (s : State) : Host.Outcome State Fault Refusal :=
  .next (runRead 4 true (.aby w) (fun m c => c.loadX m) s)

/-- LDY IMM, 0xA0 (rule R153). -/
def execLdyImm (d : Byte) (s : State) : Host.Outcome State Fault Refusal :=
  .next (runRead 2 false (.imm d) (fun m c => c.loadY m) s)

/-- LDY ZP, 0xA4 (rule R153). -/
def execLdyZp (d : Byte) (s : State) : Host.Outcome State Fault Refusal :=
  .next (runRead 3 false (.zp d) (fun m c => c.loadY m) s)

/-- LDY ABS, 0xAC (rule R153). -/
def execLdyAbs (w : Word) (s : State) : Host.Outcome State Fault Refusal :=
  .next (runRead 4 false (.abs w) (fun m c => c.loadY m) s)

/-- LDY ZPX, 0xB4 (rule R153). -/
def execLdyZpx (d : Byte) (s : State) : Host.Outcome State Fault Refusal :=
  .next (runRead 4 false (.zpx d) (fun m c => c.loadY m) s)

/-- LDY ABX, 0xBC (rule R153). -/
def execLdyAbx (w : Word) (s : State) : Host.Outcome State Fault Refusal :=
  .next (runRead 4 true (.abx w) (fun m c => c.loadY m) s)

/-- STA IZX, 0x81 (rule R154). -/
def execStaIzx (d : Byte) (s : State) : Host.Outcome State Fault Refusal :=
  .next (runWrite 6 (.izx d) (fun c => c.a) s)

/-- STA ZP, 0x85 (rule R154). -/
def execStaZp (d : Byte) (s : State) : Host.Outcome State Fault Refusal :=
  .next (runWrite 3 (.zp d) (fun c => c.a) s)

/-- STA ABS, 0x8D (rule R154). -/
def execStaAbs (w : Word) (s : State) : Host.Outcome State Fault Refusal :=
  .next (runWrite 4 (.abs w) (fun c => c.a) s)

/-- STA IZY, 0x91 (rule R154). -/
def execStaIzy (d : Byte) (s : State) : Host.Outcome State Fault Refusal :=
  .next (runWrite 6 (.izy d) (fun c => c.a) s)

/-- STA ZPX, 0x95 (rule R154). -/
def execStaZpx (d : Byte) (s : State) : Host.Outcome State Fault Refusal :=
  .next (runWrite 4 (.zpx d) (fun c => c.a) s)

/-- STA ABY, 0x99 (rule R154). -/
def execStaAby (w : Word) (s : State) : Host.Outcome State Fault Refusal :=
  .next (runWrite 5 (.aby w) (fun c => c.a) s)

/-- STA ABX, 0x9D (rule R154). -/
def execStaAbx (w : Word) (s : State) : Host.Outcome State Fault Refusal :=
  .next (runWrite 5 (.abx w) (fun c => c.a) s)

/-- STX ZP, 0x86 (rule R155). -/
def execStxZp (d : Byte) (s : State) : Host.Outcome State Fault Refusal :=
  .next (runWrite 3 (.zp d) (fun c => c.x) s)

/-- STX ABS, 0x8E (rule R155). -/
def execStxAbs (w : Word) (s : State) : Host.Outcome State Fault Refusal :=
  .next (runWrite 4 (.abs w) (fun c => c.x) s)

/-- STX ZPY, 0x96 (rule R155). -/
def execStxZpy (d : Byte) (s : State) : Host.Outcome State Fault Refusal :=
  .next (runWrite 4 (.zpy d) (fun c => c.x) s)

/-- STY ZP, 0x84 (rule R156). -/
def execStyZp (d : Byte) (s : State) : Host.Outcome State Fault Refusal :=
  .next (runWrite 3 (.zp d) (fun c => c.y) s)

/-- STY ABS, 0x8C (rule R156). -/
def execStyAbs (w : Word) (s : State) : Host.Outcome State Fault Refusal :=
  .next (runWrite 4 (.abs w) (fun c => c.y) s)

/-- STY ZPX, 0x94 (rule R156). -/
def execStyZpx (d : Byte) (s : State) : Host.Outcome State Fault Refusal :=
  .next (runWrite 4 (.zpx d) (fun c => c.y) s)

/-- TAX, 0xAA (rule R157). -/
def execTax (s : State) : Host.Outcome State Fault Refusal :=
  .next (runImplied 2 (fun c => c.loadX c.a) s)

/-- TAY, 0xA8 (rule R158). -/
def execTay (s : State) : Host.Outcome State Fault Refusal :=
  .next (runImplied 2 (fun c => c.loadY c.a) s)

/-- TXA, 0x8A (rule R159). -/
def execTxa (s : State) : Host.Outcome State Fault Refusal :=
  .next (runImplied 2 (fun c => c.loadA c.x) s)

/-- TYA, 0x98 (rule R160). -/
def execTya (s : State) : Host.Outcome State Fault Refusal :=
  .next (runImplied 2 (fun c => c.loadA c.y) s)

/-- TSX, 0xBA (rule R161). -/
def execTsx (s : State) : Host.Outcome State Fault Refusal :=
  .next (runImplied 2 (fun c => c.loadX c.s) s)

/-- TXS, 0x9A (rule R162). -/
def execTxs (s : State) : Host.Outcome State Fault Refusal :=
  .next (runImplied 2 (fun c => { c with s := c.x }) s)

/-- PHA, 0x48 (rule R165). -/
def execPha (s : State) : Host.Outcome State Fault Refusal :=
  let s1 := setWait s 2
  .next (push s1 s1.cpu.a)

/-- PHP, 0x08 (rule R166). -/
def execPhp (s : State) : Host.Outcome State Fault Refusal :=
  let s1 := setWait s 2
  .next (push s1 (s1.cpu.pbyte true))

/-- PLA, 0x68 (rule R167). -/
def execPla (s : State) : Host.Outcome State Fault Refusal :=
  let m := pop (setWait s 3)
  .next (m.2.withCpu (m.2.cpu.loadA m.1))

/-- PLP, 0x28 (rule R168). -/
def execPlp (s : State) : Host.Outcome State Fault Refusal :=
  let m := pop (setWait s 3)
  .next (m.2.withCpu (m.2.cpu.setP m.1))

end Sys2Proof.Machine
end

