-- ==== Sys2Proof/Machine/RmwShift.lean ====
section
/-! DEFINITION. The meanings of shifts, rotates, increments and decrements (spec/42_rmw_shift.md rules R200 to R210).
One definition per row of the opcode table, each over a shared shape of Machine/Operands.lean. -/

namespace Sys2Proof.Machine

/-- ASL ZP, 0x06 (rule R201). -/
def execAslZp (d : Byte) (s : State) : Host.Outcome State Fault Refusal :=
  .next (runRmw 5 (.zp d) Cpu.asl (fun r c => c.setZN r) s)

/-- ASL ACC, 0x0A (rule R201). -/
def execAslAcc (s : State) : Host.Outcome State Fault Refusal :=
  .next (runAcc 2 Cpu.asl s)

/-- ASL ABS, 0x0E (rule R201). -/
def execAslAbs (w : Word) (s : State) : Host.Outcome State Fault Refusal :=
  .next (runRmw 6 (.abs w) Cpu.asl (fun r c => c.setZN r) s)

/-- ASL ZPX, 0x16 (rule R201). -/
def execAslZpx (d : Byte) (s : State) : Host.Outcome State Fault Refusal :=
  .next (runRmw 6 (.zpx d) Cpu.asl (fun r c => c.setZN r) s)

/-- ASL ABX, 0x1E (rule R201). -/
def execAslAbx (w : Word) (s : State) : Host.Outcome State Fault Refusal :=
  .next (runRmw 7 (.abx w) Cpu.asl (fun r c => c.setZN r) s)

/-- LSR ZP, 0x46 (rule R202). -/
def execLsrZp (d : Byte) (s : State) : Host.Outcome State Fault Refusal :=
  .next (runRmw 5 (.zp d) Cpu.lsr (fun r c => c.setZN r) s)

/-- LSR ACC, 0x4A (rule R202). -/
def execLsrAcc (s : State) : Host.Outcome State Fault Refusal :=
  .next (runAcc 2 Cpu.lsr s)

/-- LSR ABS, 0x4E (rule R202). -/
def execLsrAbs (w : Word) (s : State) : Host.Outcome State Fault Refusal :=
  .next (runRmw 6 (.abs w) Cpu.lsr (fun r c => c.setZN r) s)

/-- LSR ZPX, 0x56 (rule R202). -/
def execLsrZpx (d : Byte) (s : State) : Host.Outcome State Fault Refusal :=
  .next (runRmw 6 (.zpx d) Cpu.lsr (fun r c => c.setZN r) s)

/-- LSR ABX, 0x5E (rule R202). -/
def execLsrAbx (w : Word) (s : State) : Host.Outcome State Fault Refusal :=
  .next (runRmw 7 (.abx w) Cpu.lsr (fun r c => c.setZN r) s)

/-- ROL ZP, 0x26 (rule R203). -/
def execRolZp (d : Byte) (s : State) : Host.Outcome State Fault Refusal :=
  .next (runRmw 5 (.zp d) Cpu.rol (fun r c => c.setZN r) s)

/-- ROL ACC, 0x2A (rule R203). -/
def execRolAcc (s : State) : Host.Outcome State Fault Refusal :=
  .next (runAcc 2 Cpu.rol s)

/-- ROL ABS, 0x2E (rule R203). -/
def execRolAbs (w : Word) (s : State) : Host.Outcome State Fault Refusal :=
  .next (runRmw 6 (.abs w) Cpu.rol (fun r c => c.setZN r) s)

/-- ROL ZPX, 0x36 (rule R203). -/
def execRolZpx (d : Byte) (s : State) : Host.Outcome State Fault Refusal :=
  .next (runRmw 6 (.zpx d) Cpu.rol (fun r c => c.setZN r) s)

/-- ROL ABX, 0x3E (rule R203). -/
def execRolAbx (w : Word) (s : State) : Host.Outcome State Fault Refusal :=
  .next (runRmw 7 (.abx w) Cpu.rol (fun r c => c.setZN r) s)

/-- ROR ZP, 0x66 (rule R204). -/
def execRorZp (d : Byte) (s : State) : Host.Outcome State Fault Refusal :=
  .next (runRmw 5 (.zp d) Cpu.ror (fun r c => c.setZN r) s)

/-- ROR ACC, 0x6A (rule R204). -/
def execRorAcc (s : State) : Host.Outcome State Fault Refusal :=
  .next (runAcc 2 Cpu.ror s)

/-- ROR ABS, 0x6E (rule R204). -/
def execRorAbs (w : Word) (s : State) : Host.Outcome State Fault Refusal :=
  .next (runRmw 6 (.abs w) Cpu.ror (fun r c => c.setZN r) s)

/-- ROR ZPX, 0x76 (rule R204). -/
def execRorZpx (d : Byte) (s : State) : Host.Outcome State Fault Refusal :=
  .next (runRmw 6 (.zpx d) Cpu.ror (fun r c => c.setZN r) s)

/-- ROR ABX, 0x7E (rule R204). -/
def execRorAbx (w : Word) (s : State) : Host.Outcome State Fault Refusal :=
  .next (runRmw 7 (.abx w) Cpu.ror (fun r c => c.setZN r) s)

/-- INC ZP, 0xE6 (rule R205). -/
def execIncZp (d : Byte) (s : State) : Host.Outcome State Fault Refusal :=
  .next (runRmw 5 (.zp d) Cpu.inc (fun r c => c.setZN r) s)

/-- INC ABS, 0xEE (rule R205). -/
def execIncAbs (w : Word) (s : State) : Host.Outcome State Fault Refusal :=
  .next (runRmw 6 (.abs w) Cpu.inc (fun r c => c.setZN r) s)

/-- INC ZPX, 0xF6 (rule R205). -/
def execIncZpx (d : Byte) (s : State) : Host.Outcome State Fault Refusal :=
  .next (runRmw 6 (.zpx d) Cpu.inc (fun r c => c.setZN r) s)

/-- INC ABX, 0xFE (rule R205). -/
def execIncAbx (w : Word) (s : State) : Host.Outcome State Fault Refusal :=
  .next (runRmw 7 (.abx w) Cpu.inc (fun r c => c.setZN r) s)

/-- DEC ZP, 0xC6 (rule R206). -/
def execDecZp (d : Byte) (s : State) : Host.Outcome State Fault Refusal :=
  .next (runRmw 5 (.zp d) Cpu.dec (fun r c => c.setZN r) s)

/-- DEC ABS, 0xCE (rule R206). -/
def execDecAbs (w : Word) (s : State) : Host.Outcome State Fault Refusal :=
  .next (runRmw 6 (.abs w) Cpu.dec (fun r c => c.setZN r) s)

/-- DEC ZPX, 0xD6 (rule R206). -/
def execDecZpx (d : Byte) (s : State) : Host.Outcome State Fault Refusal :=
  .next (runRmw 6 (.zpx d) Cpu.dec (fun r c => c.setZN r) s)

/-- DEC ABX, 0xDE (rule R206). -/
def execDecAbx (w : Word) (s : State) : Host.Outcome State Fault Refusal :=
  .next (runRmw 7 (.abx w) Cpu.dec (fun r c => c.setZN r) s)

/-- INX, 0xE8 (rule R207). -/
def execInx (s : State) : Host.Outcome State Fault Refusal :=
  .next (runImplied 2 (fun c => c.loadX (c.x + 1)) s)

/-- INY, 0xC8 (rule R208). -/
def execIny (s : State) : Host.Outcome State Fault Refusal :=
  .next (runImplied 2 (fun c => c.loadY (c.y + 1)) s)

/-- DEX, 0xCA (rule R209). -/
def execDex (s : State) : Host.Outcome State Fault Refusal :=
  .next (runImplied 2 (fun c => c.loadX (c.x - 1)) s)

/-- DEY, 0x88 (rule R210). -/
def execDey (s : State) : Host.Outcome State Fault Refusal :=
  .next (runImplied 2 (fun c => c.loadY (c.y - 1)) s)

end Sys2Proof.Machine
end

