-- ==== Sys2Proof/Machine/Unofficial.lean ====
section
/-! DEFINITION. The meanings of the unofficial opcodes (spec/44_unofficial.md rules R260 to R271).
One definition per row of the opcode table, each over a shared shape of Machine/Operands.lean. -/

namespace Sys2Proof.Machine

/-- NOP ZP, 0x04 (rule R261). -/
def execNopZp04 (d : Byte) (s : State) : Host.Outcome State Fault Refusal :=
  .next (runRead 3 false (.zp d) (fun _ c => c) s)

/-- NOP ABS, 0x0C (rule R261). -/
def execNopAbs0C (w : Word) (s : State) : Host.Outcome State Fault Refusal :=
  .next (runRead 4 false (.abs w) (fun _ c => c) s)

/-- NOP ZPX, 0x14 (rule R261). -/
def execNopZpx14 (d : Byte) (s : State) : Host.Outcome State Fault Refusal :=
  .next (runRead 4 false (.zpx d) (fun _ c => c) s)

/-- NOP, 0x1A (rule R261). -/
def execNop1A (s : State) : Host.Outcome State Fault Refusal :=
  .next (runImplied 2 (fun c => c) s)

/-- NOP ABX, 0x1C (rule R261). -/
def execNopAbx1C (w : Word) (s : State) : Host.Outcome State Fault Refusal :=
  .next (runRead 4 true (.abx w) (fun _ c => c) s)

/-- NOP ZPX, 0x34 (rule R261). -/
def execNopZpx34 (d : Byte) (s : State) : Host.Outcome State Fault Refusal :=
  .next (runRead 4 false (.zpx d) (fun _ c => c) s)

/-- NOP, 0x3A (rule R261). -/
def execNop3A (s : State) : Host.Outcome State Fault Refusal :=
  .next (runImplied 2 (fun c => c) s)

/-- NOP ABX, 0x3C (rule R261). -/
def execNopAbx3C (w : Word) (s : State) : Host.Outcome State Fault Refusal :=
  .next (runRead 4 true (.abx w) (fun _ c => c) s)

/-- NOP ZP, 0x44 (rule R261). -/
def execNopZp44 (d : Byte) (s : State) : Host.Outcome State Fault Refusal :=
  .next (runRead 3 false (.zp d) (fun _ c => c) s)

/-- NOP ZPX, 0x54 (rule R261). -/
def execNopZpx54 (d : Byte) (s : State) : Host.Outcome State Fault Refusal :=
  .next (runRead 4 false (.zpx d) (fun _ c => c) s)

/-- NOP, 0x5A (rule R261). -/
def execNop5A (s : State) : Host.Outcome State Fault Refusal :=
  .next (runImplied 2 (fun c => c) s)

/-- NOP ABX, 0x5C (rule R261). -/
def execNopAbx5C (w : Word) (s : State) : Host.Outcome State Fault Refusal :=
  .next (runRead 4 true (.abx w) (fun _ c => c) s)

/-- NOP ZP, 0x64 (rule R261). -/
def execNopZp64 (d : Byte) (s : State) : Host.Outcome State Fault Refusal :=
  .next (runRead 3 false (.zp d) (fun _ c => c) s)

/-- NOP ZPX, 0x74 (rule R261). -/
def execNopZpx74 (d : Byte) (s : State) : Host.Outcome State Fault Refusal :=
  .next (runRead 4 false (.zpx d) (fun _ c => c) s)

/-- NOP, 0x7A (rule R261). -/
def execNop7A (s : State) : Host.Outcome State Fault Refusal :=
  .next (runImplied 2 (fun c => c) s)

/-- NOP ABX, 0x7C (rule R261). -/
def execNopAbx7C (w : Word) (s : State) : Host.Outcome State Fault Refusal :=
  .next (runRead 4 true (.abx w) (fun _ c => c) s)

/-- NOP IMM, 0x80 (rule R261). -/
def execNopImm80 (d : Byte) (s : State) : Host.Outcome State Fault Refusal :=
  .next (runRead 2 false (.imm d) (fun _ c => c) s)

/-- NOP ZPX, 0xD4 (rule R261). -/
def execNopZpxD4 (d : Byte) (s : State) : Host.Outcome State Fault Refusal :=
  .next (runRead 4 false (.zpx d) (fun _ c => c) s)

/-- NOP, 0xDA (rule R261). -/
def execNopDA (s : State) : Host.Outcome State Fault Refusal :=
  .next (runImplied 2 (fun c => c) s)

/-- NOP ABX, 0xDC (rule R261). -/
def execNopAbxDC (w : Word) (s : State) : Host.Outcome State Fault Refusal :=
  .next (runRead 4 true (.abx w) (fun _ c => c) s)

/-- NOP ZPX, 0xF4 (rule R261). -/
def execNopZpxF4 (d : Byte) (s : State) : Host.Outcome State Fault Refusal :=
  .next (runRead 4 false (.zpx d) (fun _ c => c) s)

/-- NOP, 0xFA (rule R261). -/
def execNopFA (s : State) : Host.Outcome State Fault Refusal :=
  .next (runImplied 2 (fun c => c) s)

/-- NOP ABX, 0xFC (rule R261). -/
def execNopAbxFC (w : Word) (s : State) : Host.Outcome State Fault Refusal :=
  .next (runRead 4 true (.abx w) (fun _ c => c) s)

/-- LAX IZX, 0xA3 (rule R262). -/
def execLaxIzx (d : Byte) (s : State) : Host.Outcome State Fault Refusal :=
  .next (runRead 6 false (.izx d) (fun m c => { c.loadA m with x := m }) s)

/-- LAX ZP, 0xA7 (rule R262). -/
def execLaxZp (d : Byte) (s : State) : Host.Outcome State Fault Refusal :=
  .next (runRead 3 false (.zp d) (fun m c => { c.loadA m with x := m }) s)

/-- LAX ABS, 0xAF (rule R262). -/
def execLaxAbs (w : Word) (s : State) : Host.Outcome State Fault Refusal :=
  .next (runRead 4 false (.abs w) (fun m c => { c.loadA m with x := m }) s)

/-- LAX IZY, 0xB3 (rule R262). -/
def execLaxIzy (d : Byte) (s : State) : Host.Outcome State Fault Refusal :=
  .next (runRead 5 true (.izy d) (fun m c => { c.loadA m with x := m }) s)

/-- LAX ZPY, 0xB7 (rule R262). -/
def execLaxZpy (d : Byte) (s : State) : Host.Outcome State Fault Refusal :=
  .next (runRead 4 false (.zpy d) (fun m c => { c.loadA m with x := m }) s)

/-- LAX ABY, 0xBF (rule R262). -/
def execLaxAby (w : Word) (s : State) : Host.Outcome State Fault Refusal :=
  .next (runRead 4 true (.aby w) (fun m c => { c.loadA m with x := m }) s)

/-- SAX IZX, 0x83 (rule R263). -/
def execSaxIzx (d : Byte) (s : State) : Host.Outcome State Fault Refusal :=
  .next (runWrite 6 (.izx d) (fun c => c.a &&& c.x) s)

/-- SAX ZP, 0x87 (rule R263). -/
def execSaxZp (d : Byte) (s : State) : Host.Outcome State Fault Refusal :=
  .next (runWrite 3 (.zp d) (fun c => c.a &&& c.x) s)

/-- SAX ABS, 0x8F (rule R263). -/
def execSaxAbs (w : Word) (s : State) : Host.Outcome State Fault Refusal :=
  .next (runWrite 4 (.abs w) (fun c => c.a &&& c.x) s)

/-- SAX ZPY, 0x97 (rule R263). -/
def execSaxZpy (d : Byte) (s : State) : Host.Outcome State Fault Refusal :=
  .next (runWrite 4 (.zpy d) (fun c => c.a &&& c.x) s)

/-- SBC IMM, 0xEB (rule R264). -/
def execSbcImmEB (d : Byte) (s : State) : Host.Outcome State Fault Refusal :=
  .next (runRead 2 false (.imm d) (fun m c => c.subWithBorrow m) s)

/-- SLO IZX, 0x03 (rule R266). -/
def execSloIzx (d : Byte) (s : State) : Host.Outcome State Fault Refusal :=
  .next (runRmw 8 (.izx d) Cpu.asl (fun r c => c.loadA (c.a ||| r)) s)

/-- SLO ZP, 0x07 (rule R266). -/
def execSloZp (d : Byte) (s : State) : Host.Outcome State Fault Refusal :=
  .next (runRmw 5 (.zp d) Cpu.asl (fun r c => c.loadA (c.a ||| r)) s)

/-- SLO ABS, 0x0F (rule R266). -/
def execSloAbs (w : Word) (s : State) : Host.Outcome State Fault Refusal :=
  .next (runRmw 6 (.abs w) Cpu.asl (fun r c => c.loadA (c.a ||| r)) s)

/-- SLO IZY, 0x13 (rule R266). -/
def execSloIzy (d : Byte) (s : State) : Host.Outcome State Fault Refusal :=
  .next (runRmw 8 (.izy d) Cpu.asl (fun r c => c.loadA (c.a ||| r)) s)

/-- SLO ZPX, 0x17 (rule R266). -/
def execSloZpx (d : Byte) (s : State) : Host.Outcome State Fault Refusal :=
  .next (runRmw 6 (.zpx d) Cpu.asl (fun r c => c.loadA (c.a ||| r)) s)

/-- SLO ABY, 0x1B (rule R266). -/
def execSloAby (w : Word) (s : State) : Host.Outcome State Fault Refusal :=
  .next (runRmw 7 (.aby w) Cpu.asl (fun r c => c.loadA (c.a ||| r)) s)

/-- SLO ABX, 0x1F (rule R266). -/
def execSloAbx (w : Word) (s : State) : Host.Outcome State Fault Refusal :=
  .next (runRmw 7 (.abx w) Cpu.asl (fun r c => c.loadA (c.a ||| r)) s)

/-- RLA IZX, 0x23 (rule R267). -/
def execRlaIzx (d : Byte) (s : State) : Host.Outcome State Fault Refusal :=
  .next (runRmw 8 (.izx d) Cpu.rol (fun r c => c.loadA (c.a &&& r)) s)

/-- RLA ZP, 0x27 (rule R267). -/
def execRlaZp (d : Byte) (s : State) : Host.Outcome State Fault Refusal :=
  .next (runRmw 5 (.zp d) Cpu.rol (fun r c => c.loadA (c.a &&& r)) s)

/-- RLA ABS, 0x2F (rule R267). -/
def execRlaAbs (w : Word) (s : State) : Host.Outcome State Fault Refusal :=
  .next (runRmw 6 (.abs w) Cpu.rol (fun r c => c.loadA (c.a &&& r)) s)

/-- RLA IZY, 0x33 (rule R267). -/
def execRlaIzy (d : Byte) (s : State) : Host.Outcome State Fault Refusal :=
  .next (runRmw 8 (.izy d) Cpu.rol (fun r c => c.loadA (c.a &&& r)) s)

/-- RLA ZPX, 0x37 (rule R267). -/
def execRlaZpx (d : Byte) (s : State) : Host.Outcome State Fault Refusal :=
  .next (runRmw 6 (.zpx d) Cpu.rol (fun r c => c.loadA (c.a &&& r)) s)

/-- RLA ABY, 0x3B (rule R267). -/
def execRlaAby (w : Word) (s : State) : Host.Outcome State Fault Refusal :=
  .next (runRmw 7 (.aby w) Cpu.rol (fun r c => c.loadA (c.a &&& r)) s)

/-- RLA ABX, 0x3F (rule R267). -/
def execRlaAbx (w : Word) (s : State) : Host.Outcome State Fault Refusal :=
  .next (runRmw 7 (.abx w) Cpu.rol (fun r c => c.loadA (c.a &&& r)) s)

/-- SRE IZX, 0x43 (rule R268). -/
def execSreIzx (d : Byte) (s : State) : Host.Outcome State Fault Refusal :=
  .next (runRmw 8 (.izx d) Cpu.lsr (fun r c => c.loadA (c.a ^^^ r)) s)

/-- SRE ZP, 0x47 (rule R268). -/
def execSreZp (d : Byte) (s : State) : Host.Outcome State Fault Refusal :=
  .next (runRmw 5 (.zp d) Cpu.lsr (fun r c => c.loadA (c.a ^^^ r)) s)

/-- SRE ABS, 0x4F (rule R268). -/
def execSreAbs (w : Word) (s : State) : Host.Outcome State Fault Refusal :=
  .next (runRmw 6 (.abs w) Cpu.lsr (fun r c => c.loadA (c.a ^^^ r)) s)

/-- SRE IZY, 0x53 (rule R268). -/
def execSreIzy (d : Byte) (s : State) : Host.Outcome State Fault Refusal :=
  .next (runRmw 8 (.izy d) Cpu.lsr (fun r c => c.loadA (c.a ^^^ r)) s)

/-- SRE ZPX, 0x57 (rule R268). -/
def execSreZpx (d : Byte) (s : State) : Host.Outcome State Fault Refusal :=
  .next (runRmw 6 (.zpx d) Cpu.lsr (fun r c => c.loadA (c.a ^^^ r)) s)

/-- SRE ABY, 0x5B (rule R268). -/
def execSreAby (w : Word) (s : State) : Host.Outcome State Fault Refusal :=
  .next (runRmw 7 (.aby w) Cpu.lsr (fun r c => c.loadA (c.a ^^^ r)) s)

/-- SRE ABX, 0x5F (rule R268). -/
def execSreAbx (w : Word) (s : State) : Host.Outcome State Fault Refusal :=
  .next (runRmw 7 (.abx w) Cpu.lsr (fun r c => c.loadA (c.a ^^^ r)) s)

/-- RRA IZX, 0x63 (rule R269). -/
def execRraIzx (d : Byte) (s : State) : Host.Outcome State Fault Refusal :=
  .next (runRmw 8 (.izx d) Cpu.ror (fun r c => c.addWithCarry r) s)

/-- RRA ZP, 0x67 (rule R269). -/
def execRraZp (d : Byte) (s : State) : Host.Outcome State Fault Refusal :=
  .next (runRmw 5 (.zp d) Cpu.ror (fun r c => c.addWithCarry r) s)

/-- RRA ABS, 0x6F (rule R269). -/
def execRraAbs (w : Word) (s : State) : Host.Outcome State Fault Refusal :=
  .next (runRmw 6 (.abs w) Cpu.ror (fun r c => c.addWithCarry r) s)

/-- RRA IZY, 0x73 (rule R269). -/
def execRraIzy (d : Byte) (s : State) : Host.Outcome State Fault Refusal :=
  .next (runRmw 8 (.izy d) Cpu.ror (fun r c => c.addWithCarry r) s)

/-- RRA ZPX, 0x77 (rule R269). -/
def execRraZpx (d : Byte) (s : State) : Host.Outcome State Fault Refusal :=
  .next (runRmw 6 (.zpx d) Cpu.ror (fun r c => c.addWithCarry r) s)

/-- RRA ABY, 0x7B (rule R269). -/
def execRraAby (w : Word) (s : State) : Host.Outcome State Fault Refusal :=
  .next (runRmw 7 (.aby w) Cpu.ror (fun r c => c.addWithCarry r) s)

/-- RRA ABX, 0x7F (rule R269). -/
def execRraAbx (w : Word) (s : State) : Host.Outcome State Fault Refusal :=
  .next (runRmw 7 (.abx w) Cpu.ror (fun r c => c.addWithCarry r) s)

/-- DCP IZX, 0xC3 (rule R270). -/
def execDcpIzx (d : Byte) (s : State) : Host.Outcome State Fault Refusal :=
  .next (runRmw 8 (.izx d) Cpu.dec (fun r c => c.compare c.a r) s)

/-- DCP ZP, 0xC7 (rule R270). -/
def execDcpZp (d : Byte) (s : State) : Host.Outcome State Fault Refusal :=
  .next (runRmw 5 (.zp d) Cpu.dec (fun r c => c.compare c.a r) s)

/-- DCP ABS, 0xCF (rule R270). -/
def execDcpAbs (w : Word) (s : State) : Host.Outcome State Fault Refusal :=
  .next (runRmw 6 (.abs w) Cpu.dec (fun r c => c.compare c.a r) s)

/-- DCP IZY, 0xD3 (rule R270). -/
def execDcpIzy (d : Byte) (s : State) : Host.Outcome State Fault Refusal :=
  .next (runRmw 8 (.izy d) Cpu.dec (fun r c => c.compare c.a r) s)

/-- DCP ZPX, 0xD7 (rule R270). -/
def execDcpZpx (d : Byte) (s : State) : Host.Outcome State Fault Refusal :=
  .next (runRmw 6 (.zpx d) Cpu.dec (fun r c => c.compare c.a r) s)

/-- DCP ABY, 0xDB (rule R270). -/
def execDcpAby (w : Word) (s : State) : Host.Outcome State Fault Refusal :=
  .next (runRmw 7 (.aby w) Cpu.dec (fun r c => c.compare c.a r) s)

/-- DCP ABX, 0xDF (rule R270). -/
def execDcpAbx (w : Word) (s : State) : Host.Outcome State Fault Refusal :=
  .next (runRmw 7 (.abx w) Cpu.dec (fun r c => c.compare c.a r) s)

/-- ISB IZX, 0xE3 (rule R271). -/
def execIsbIzx (d : Byte) (s : State) : Host.Outcome State Fault Refusal :=
  .next (runRmw 8 (.izx d) Cpu.inc (fun r c => c.subWithBorrow r) s)

/-- ISB ZP, 0xE7 (rule R271). -/
def execIsbZp (d : Byte) (s : State) : Host.Outcome State Fault Refusal :=
  .next (runRmw 5 (.zp d) Cpu.inc (fun r c => c.subWithBorrow r) s)

/-- ISB ABS, 0xEF (rule R271). -/
def execIsbAbs (w : Word) (s : State) : Host.Outcome State Fault Refusal :=
  .next (runRmw 6 (.abs w) Cpu.inc (fun r c => c.subWithBorrow r) s)

/-- ISB IZY, 0xF3 (rule R271). -/
def execIsbIzy (d : Byte) (s : State) : Host.Outcome State Fault Refusal :=
  .next (runRmw 8 (.izy d) Cpu.inc (fun r c => c.subWithBorrow r) s)

/-- ISB ZPX, 0xF7 (rule R271). -/
def execIsbZpx (d : Byte) (s : State) : Host.Outcome State Fault Refusal :=
  .next (runRmw 6 (.zpx d) Cpu.inc (fun r c => c.subWithBorrow r) s)

/-- ISB ABY, 0xFB (rule R271). -/
def execIsbAby (w : Word) (s : State) : Host.Outcome State Fault Refusal :=
  .next (runRmw 7 (.aby w) Cpu.inc (fun r c => c.subWithBorrow r) s)

/-- ISB ABX, 0xFF (rule R271). -/
def execIsbAbx (w : Word) (s : State) : Host.Outcome State Fault Refusal :=
  .next (runRmw 7 (.abx w) Cpu.inc (fun r c => c.subWithBorrow r) s)

end Sys2Proof.Machine
end

