-- ==== Sys2Proof/Machine/Dma.lean ====
section
/-! DEFINITION. One step of the OAM DMA unit (spec/61_clock_dma.md rules R344 to R348). -/

namespace Sys2Proof.Machine

/-- The read half: `dma_data <- MemRead(dma_page ++ dma_addr, 1)`. -/
def dmaRead (s : State) : State :=
  let r := memRead s (hilo s.dma.page s.dma.addr)
  { r.2 with dma := { r.2.dma with data := r.1 } }

/-- The write half: one byte into OAM; the transfer ends when the address wraps to 0. -/
def dmaWrite (s : State) : State :=
  let next := s.dma.addr + 1
  { s with
    ppu := { s.ppu with oam := s.ppu.oam.write s.dma.addr.toNat s.dma.data }
    dma :=
      if next = 0 then { s.dma with addr := next, transfer := false, dummy := true }
      else { s.dma with addr := next } }

/-- `DmaStep` (rule R346): an alignment step if the first one falls on an odd `cyc`, then reads on even and
writes on odd `cyc`. -/
def dmaStep (s : State) : State :=
  let s1 := { s with dma := { s.dma with dummy := false } }
  if s.dma.dummy = true ∧ s.cyc % 2 = 1 then s1
  else if s.cyc % 2 = 0 then dmaRead s1 else dmaWrite s1

end Sys2Proof.Machine
end

