-- ==== Sys2Proof/Machine/PpuBackground.lean ====
section
/-! DEFINITION. The background pipeline and the scroll arithmetic of the PPU tick
(spec/62_ppu.md rules R403, R405 to R413). -/

namespace Sys2Proof.Machine

/-- `ShiftRegisters`, background part (rule R405). -/
def shiftBackground (p : Ppu) : Ppu :=
  if bgEn p.mask then
    { p with
      bgPatLo := p.bgPatLo <<< 1
      bgPatHi := p.bgPatHi <<< 1
      bgAttrLo := p.bgAttrLo <<< 1
      bgAttrHi := p.bgAttrHi <<< 1 }
  else p

/-- Eight copies of one attribute bit (rule R412). -/
def spreadBit (b : Bool) : Byte := if b then 0xFF else 0x00

/-- `LoadBgShifters` (rule R412): the low bytes are replaced, the high bytes kept. -/
def loadBgShifters (p : Ppu) : Ppu :=
  { p with
    bgPatLo := hilo (page p.bgPatLo) p.nextTileLsb
    bgPatHi := hilo (page p.bgPatHi) p.nextTileMsb
    bgAttrLo := hilo (page p.bgAttrLo) (spreadBit (bit p.nextTileAttr 0))
    bgAttrHi := hilo (page p.bgAttrHi) (spreadBit (bit p.nextTileAttr 1)) }

/-- The nametable address of rule R406: `0x2000 + vram_addr[11:0]`. -/
def tileIdAddr (v : Scroll) : PpuAddr := 0x2000 + (v.extractLsb' 0 12).zeroExtend 14

/-- The attribute address of rule R407. -/
def attributeAddr (v : Scroll) : PpuAddr :=
  0x23C0 + ((v.extractLsb' 10 2).zeroExtend 14 <<< 10) + (((coarseY v).extractLsb' 2 3).zeroExtend 14 <<< 3) +
    ((coarseX v).extractLsb' 2 3).zeroExtend 14

/-- The quadrant selection of rule R407. -/
def attributeQuadrant (v : Scroll) (b : Byte) : Byte :=
  let b1 := if (coarseY v).getLsbD 1 then b >>> 4 else b
  let b2 := if (coarseX v).getLsbD 1 then b1 >>> 2 else b1
  b2 &&& 0x03

/-- The pattern address of rules R408 and R409; `plane` adds 8 for the high plane. -/
def patternAddr (ctrl : Byte) (tile : Byte) (row : BitVec 3) (plane : Bool) : PpuAddr :=
  ((bgTable ctrl).zeroExtend 14 <<< 12) + (tile.zeroExtend 14 <<< 4) + row.zeroExtend 14 +
    (if plane then 8 else 0)

/-- The coarse-X increment of rule R410. -/
def incrementX (v : Scroll) : Scroll :=
  if coarseX v = 31 then withNtX (withCoarseX v 0) (ntX v ^^^ 1) else withCoarseX v (coarseX v + 1)

/-- The `IncrementY` of rule R411, with the coarse-Y 31 quirk. -/
def incrementY (v : Scroll) : Scroll :=
  if (fineY v).toNat < 7 then withFineY v (fineY v + 1)
  else
    let v0 := withFineY v 0
    if coarseY v = 29 then withNtY (withCoarseY v0 0) (ntY v ^^^ 1)
    else if coarseY v = 31 then withCoarseY v0 0
    else withCoarseY v0 (coarseY v + 1)

/-- `TransferX` (rule R412). -/
def transferX (v t : Scroll) : Scroll := withCoarseX (withNtX v (ntX t)) (coarseX t)

/-- `TransferY` (rule R413). -/
def transferY (v t : Scroll) : Scroll := withCoarseY (withNtY (withFineY v (fineY t)) (ntY t)) (coarseY t)

/-- Apply a scroll update only when rendering is enabled (rule R403). -/
def whenRendering (p : Ppu) (f : Ppu → Scroll) : Ppu :=
  if rendering p then { p with vramAddr := f p } else p

/-- `BgPhase(k)`, `k = (cycle - 1) mod 8` (rules R406 to R410). -/
def bgPhase (s : State) (k : Nat) : State :=
  match k with
  | 0 =>
    let p := loadBgShifters s.ppu
    { s with ppu := { p with nextTileId := ppuRead s (tileIdAddr p.vramAddr) } }
  | 2 =>
    let v := s.ppu.vramAddr
    { s with ppu := { s.ppu with nextTileAttr := attributeQuadrant v (ppuRead s (attributeAddr v)) } }
  | 4 =>
    let a := patternAddr s.ppu.ctrl s.ppu.nextTileId (fineY s.ppu.vramAddr) false
    { s with ppu := { s.ppu with nextTileLsb := ppuRead s a } }
  | 6 =>
    let a := patternAddr s.ppu.ctrl s.ppu.nextTileId (fineY s.ppu.vramAddr) true
    { s with ppu := { s.ppu with nextTileMsb := ppuRead s a } }
  | 7 => { s with ppu := whenRendering s.ppu fun p => incrementX p.vramAddr }
  | _ => s

/-- The cycle lies in the pipeline's ranges `BgPipeStart..257` and `321..337` (rule R403). -/
def inPipeline (cfg : Config) (cycle : Nat) : Bool :=
  (decide (cfg.bgPipeStart.toNat ≤ cycle) && decide (cycle ≤ 257)) ||
    (decide (321 ≤ cycle) && decide (cycle ≤ 337))

end Sys2Proof.Machine
end

