-- ==== Sys2Proof/Machine/PpuSprites.lean ====
section
/-! DEFINITION. Sprite evaluation, fetch and shifting, and pixel composition
(spec/62_ppu.md rules R420 to R436). -/

namespace Sys2Proof.Machine

/-! ### Evaluation (rule R420) -/

/-- Sprite height. -/
def spriteHeight (ctrl : Byte) : Nat := if spr16 ctrl then 16 else 8

/-- OAM entry `n`: `(y, tile, attr, x)` at `4n .. 4n+3` (rule R50). -/
def oamEntry (oam : Memory) (n : Nat) : Sprite :=
  ⟨oam.read (4 * n), oam.read (4 * n + 1), oam.read (4 * n + 2), oam.read (4 * n + 3)⟩

/-- The row test `0 <= d < h` with `d = scanline - y`. -/
def inRange (line : Int) (h : Nat) (y : Byte) : Bool :=
  decide (0 ≤ line - y.toNat) && decide (line - y.toNat < h)

/-- What one evaluation gives. -/
structure Evaluation where
  sprites : List Sprite
  zero : Bool
  overflow : Bool
  deriving DecidableEq, Repr

/-- The scan over OAM entries `ns`, in order: the ninth entry in range sets the overflow and stops it. -/
def evaluateFrom (oam : Memory) (line : Int) (h : Nat) : List Nat → Evaluation → Evaluation
  | [], e => e
  | n :: ns, e =>
    if inRange line h (oam.read (4 * n)) then
      if e.sprites.length < Config.maxSprites then
        evaluateFrom oam line h ns
          { e with sprites := e.sprites ++ [oamEntry oam n], zero := e.zero || n == 0 }
      else { e with overflow := true }
    else evaluateFrom oam line h ns e

/-- `SpriteEvaluation` (rule R420). -/
def spriteEvaluation (p : Ppu) : Ppu :=
  let e := evaluateFrom p.oam p.scanline (spriteHeight p.ctrl) (List.range 64) ⟨[], false, false⟩
  { p with sprites := e.sprites, sprZeroSelected := e.zero, sprOverflow := p.sprOverflow || e.overflow }

/-! ### Fetch (rule R421) -/

/-- The pattern row of a sprite on this scanline, vertical flip applied: an integer, in `0 .. h-1` unless the
sprite height was changed since the evaluation (DEDUCED, log entry 14). -/
def spriteRow (ctrl : Byte) (line : Int) (sp : Sprite) : Int :=
  let r := line - sp.y.toNat
  if bit sp.attr 7 then (spriteHeight ctrl : Int) - 1 - r else r

/-- The address of the low pattern byte of a sprite row, taken modulo the PPU address space (rule R390). -/
def spritePatternAddr (ctrl : Byte) (sp : Sprite) (r : Int) : PpuAddr :=
  if spr16 ctrl then
    BitVec.ofInt 14
      (((sp.tile.toNat % 2) * 0x1000 : Nat) + (((sp.tile &&& 0xFE).toNat : Int) + r / 8) * 16 + r % 8)
  else BitVec.ofInt 14 (((sprTable ctrl).toNat * 0x1000 + sp.tile.toNat * 16 : Nat) + r)

/-- The pattern bytes of one sprite, horizontal flip applied. -/
def fetchLane (s : State) (sp : Sprite) : Lane :=
  let a := spritePatternAddr s.ppu.ctrl sp (spriteRow s.ppu.ctrl s.ppu.scanline sp)
  let lo := ppuRead s a
  let hi := ppuRead s (a + 8)
  if bit sp.attr 6 then ⟨bitReverse8 lo, bitReverse8 hi⟩ else ⟨lo, hi⟩

/-- `SpriteFetch`: lanes beyond `spr_count` keep their contents. -/
def spriteFetch (s : State) : State :=
  let fresh := s.ppu.sprites.map (fetchLane s)
  { s with ppu := { s.ppu with lanes := fresh ++ s.ppu.lanes.drop fresh.length } }

/-! ### Shifting (rule R422) -/

/-- Count the X of each selected sprite down, and shift its lane once the count is 0. -/
def shiftLanes : List Sprite → List Lane → List Sprite × List Lane
  | [], lanes => ([], lanes)
  | sps, [] => (sps, [])
  | sp :: sps, l :: ls =>
    let rest := shiftLanes sps ls
    if sp.x != 0 then ({ sp with x := sp.x - 1 } :: rest.1, l :: rest.2)
    else (sp :: rest.1, ⟨l.lo <<< 1, l.hi <<< 1⟩ :: rest.2)

/-- `ShiftRegisters`, sprite part: only with `spr_en` and in cycles 2..257. -/
def shiftSprites (p : Ppu) : Ppu :=
  if sprEn p.mask = true ∧ 2 ≤ p.cycle ∧ p.cycle ≤ 257 then
    let r := shiftLanes p.sprites p.lanes
    { p with sprites := r.1, lanes := r.2 }
  else p

/-! ### Composition (rules R430 to R436) -/

/-- A layer's pixel: 2 bits of colour, 3 bits of palette number. -/
structure LayerPixel where
  pixel : BitVec 2
  palette : BitVec 3
  deriving DecidableEq, Repr

/-- The background pixel (rule R430). -/
def backgroundPixel (p : Ppu) : LayerPixel :=
  if bgEn p.mask = true ∧ (bgLeft p.mask = true ∨ 9 ≤ p.cycle) then
    let b := 15 - p.fineX.toNat
    ⟨BitVec.ofBool (p.bgPatHi.getLsbD b) ++ BitVec.ofBool (p.bgPatLo.getLsbD b),
      0#1 ++ BitVec.ofBool (p.bgAttrHi.getLsbD b) ++ BitVec.ofBool (p.bgAttrLo.getLsbD b)⟩
  else ⟨0, 0⟩

/-- A sprite layer's pixel with its priority and whether it is OAM entry 0. -/
structure FrontPixel where
  layer : LayerPixel
  front : Bool
  zero : Bool
  deriving DecidableEq, Repr

/-- The first non-transparent sprite in buffer order (rule R431); `zero` says the head is OAM entry 0. -/
def firstOpaque : List Sprite → List Lane → Bool → FrontPixel
  | [], _, _ => ⟨⟨0, 0⟩, false, false⟩
  | _, [], _ => ⟨⟨0, 0⟩, false, false⟩
  | sp :: sps, l :: ls, zero =>
    let p : BitVec 2 := BitVec.ofBool (bit l.hi 7) ++ BitVec.ofBool (bit l.lo 7)
    if sp.x = 0 ∧ p ≠ 0 then
      ⟨⟨p, 1#1 ++ sp.attr.extractLsb' 0 2⟩, !bit sp.attr 5, zero⟩
    else firstOpaque sps ls false

/-- The foreground pixel (rule R431). -/
def foregroundPixel (p : Ppu) : FrontPixel :=
  if sprEn p.mask = true ∧ (sprLeft p.mask = true ∨ 9 ≤ p.cycle) then
    firstOpaque p.sprites p.lanes p.sprZeroSelected
  else ⟨⟨0, 0⟩, false, false⟩

/-- The combination table of rule R432. -/
def combine (bg : LayerPixel) (fg : FrontPixel) : LayerPixel :=
  if bg.pixel = 0 then (if fg.layer.pixel = 0 then ⟨0, 0⟩ else fg.layer)
  else if fg.layer.pixel = 0 then bg
  else if fg.front then fg.layer else bg

/-- The sprite-zero hit of rule R434. -/
def zeroHit (p : Ppu) (bg : LayerPixel) (fg : FrontPixel) : Bool :=
  bg.pixel != 0 && fg.layer.pixel != 0 && fg.zero && bgEn p.mask && sprEn p.mask

/-- The palette address of a pixel: `0x3F00 + (palette << 2) + pixel` (rule R436). -/
def paletteAddr (l : LayerPixel) : PpuAddr := 0x3F00 + (l.palette ++ l.pixel).zeroExtend 14

/-- The 6-bit output of rule R436. -/
def pixelValue (mask : Byte) (c : Byte) : BitVec 6 :=
  (if gray mask then c &&& 0x30 else c).extractLsb' 0 6

/-- `OutputPixel` (rules R430 to R436). -/
def outputPixel (s : State) : State :=
  let bg := backgroundPixel s.ppu
  let fg := foregroundPixel s.ppu
  let c := ppuRead s (paletteAddr (combine bg fg))
  { s with
    ppu := { s.ppu with spr0Hit := s.ppu.spr0Hit || zeroHit s.ppu bg fg }
    pixel := some ⟨s.ppu.cycle - 1, s.ppu.scanline.toNat, pixelValue s.ppu.mask c⟩ }

end Sys2Proof.Machine
end

