-- ==== Sys2Proof/Machine/Ppu.lean ====
section
/-! DEFINITION. The PPU tick (spec/62_ppu.md rule R400): what happens at the cursor position found, then the
cursor's advance. -/

namespace Sys2Proof.Machine

/-- The race flags move on (rules R400, R404). -/
def moveRaceFlags (p : Ppu) : Ppu :=
  { p with statusReadLastTick := p.statusReadThisTick, statusReadThisTick := false }

/-- The per-scanline cartridge hook, at cycle 0 of every line (rules R306, R400). -/
def scanlineHook (s : State) : State :=
  if s.ppu.cycle = 0 then { s with cart := s.cart.onScanline s.ppu.scanline (rendering s.ppu) } else s

/-- The odd-frame dot skip (rule R401). -/
def oddFrameSkip (p : Ppu) : Ppu :=
  if p.scanline = 0 ∧ p.cycle = 0 ∧ p.oddFrame = true ∧ rendering p = true then { p with cycle := 1 } else p

/-- `FrameStartClear` (rule R402). -/
def frameStartClear (p : Ppu) : Ppu :=
  { p with
    vblank := false
    spr0Hit := false
    sprOverflow := false
    lanes := p.lanes.map fun _ => ⟨0, 0⟩ }

/-! ### The work of a tick on a renderable line, -1..239, one definition for each part of rule R400.  None of
them moves the cursor. -/

/-- Pre-render line, cycle 1: the frame's flags are cleared (rule R402). -/
def clearPart (s : State) : State :=
  if s.ppu.scanline = -1 ∧ s.ppu.cycle = 1 then { s with ppu := frameStartClear s.ppu } else s

/-- The pipeline's ranges: shift, then the phase of the eight-cycle fetch (rule R403). -/
def pipelinePart (s : State) : State :=
  if inPipeline s.cfg s.ppu.cycle then
    bgPhase { s with ppu := shiftSprites (shiftBackground s.ppu) } ((s.ppu.cycle - 1) % 8)
  else s

/-- Cycle 256: the vertical increment (rule R411). -/
def incrementYPart (s : State) : State :=
  if s.ppu.cycle = 256 then { s with ppu := whenRendering s.ppu fun p => incrementY p.vramAddr } else s

/-- Cycle 257: the shifters are loaded and the horizontal bits transferred (rule R412). -/
def transferXPart (s : State) : State :=
  if s.ppu.cycle = 257 then
    { s with ppu := whenRendering (loadBgShifters s.ppu) fun p => transferX p.vramAddr p.tramAddr }
  else s

/-- Pre-render line, cycles 280 to 304: the vertical bits are transferred (rule R413). -/
def transferYPart (s : State) : State :=
  if s.ppu.scanline = -1 ∧ 280 ≤ s.ppu.cycle ∧ s.ppu.cycle ≤ 304 then
    { s with ppu := whenRendering s.ppu fun p => transferY p.vramAddr p.tramAddr }
  else s

/-- Visible lines, cycle 257: sprite evaluation (rule R420). -/
def evaluationPart (s : State) : State :=
  if 0 ≤ s.ppu.scanline ∧ s.ppu.cycle = 257 then { s with ppu := spriteEvaluation s.ppu } else s

/-- Visible lines, cycle 340: sprite fetch (rule R421). -/
def fetchPart (s : State) : State :=
  if 0 ≤ s.ppu.scanline ∧ s.ppu.cycle = 340 then spriteFetch s else s

/-- The parts in the order of rule R400, after the odd-frame skip. -/
def renderLine (s : State) : State :=
  fetchPart <| evaluationPart <| transferYPart <| transferXPart <| incrementYPart <| pipelinePart <| clearPart
    { s with ppu := oddFrameSkip s.ppu }

/-- `VblankStart` (rule R404). -/
def vblankStart (s : State) : State :=
  if s.ppu.statusReadLastTick then s
  else
    { s with
      ppu := { s.ppu with vblank := true }
      cpu := { s.cpu with nmiLatch := s.cpu.nmiLatch || nmiEn s.ppu.ctrl } }

/-- The cursor's advance (rule R400). -/
def advanceCursor (p : Ppu) : Ppu :=
  if p.cycle + 1 > Config.lastCycle then
    if p.scanline + 1 > Config.lastScanline then
      { p with cycle := 0, scanline := -1, oddFrame := !p.oddFrame }
    else { p with cycle := 0, scanline := p.scanline + 1 }
  else { p with cycle := p.cycle + 1 }

/-- Lines -1..239 (rule R400). -/
def renderPart (s : State) : State :=
  if -1 ≤ s.ppu.scanline ∧ s.ppu.scanline ≤ 239 then renderLine s else s

/-- Line 241, cycle 1 (rules R400, R404). -/
def vblankPart (s : State) : State :=
  if s.ppu.scanline = 241 ∧ s.ppu.cycle = 1 then vblankStart s else s

/-- Visible lines, cycles 1 to 256: one pixel (rules R400, R436). -/
def pixelPart (s : State) : State :=
  if 0 ≤ s.ppu.scanline ∧ s.ppu.scanline ≤ 239 ∧ 1 ≤ s.ppu.cycle ∧ s.ppu.cycle ≤ 256 then outputPixel s else s

/-- One PPU tick (rule R400). -/
def ppuTick (s : State) : State :=
  let t := pixelPart <| vblankPart <| renderPart <|
    scanlineHook { s with ppu := moveRaceFlags s.ppu, pixel := none }
  { t with ppu := advanceCursor t.ppu }

end Sys2Proof.Machine
end

