-- ==== Sys2Proof/Machine/Tick.lean ====
section
/-! DEFINITION. Fetch and the CPU tick (spec/30_encoding.md rule R114, spec/60_exceptions.md rules R300 to
R310) and the master tick (spec/61_clock_dma.md rule R341). -/

namespace Sys2Proof.Machine

/-- `n` calls of `Fetch()`, the bytes in ascending address order. -/
def fetchBytes : Nat → State → List Byte × State
  | 0, s => ([], s)
  | n + 1, s =>
    let b := fetchByte s
    let rest := fetchBytes n b.2
    (b.1 :: rest.1, rest.2)

/-- The bytes of the instruction at `PC`: the opcode, then as many operand bytes as it asks for (rule R84; DEDUCED,
log entry 9). -/
def fetchInstr (s : State) : List Byte × State :=
  let op := fetchByte s
  let rest := fetchBytes (operandCount op.1) op.2
  (op.1 :: rest.1, rest.2)

/-- The fault of a fetch at `s` (rule R301): the opcode byte, its address, and the state at the start of the
CPU tick (DESIGN CHOICE, log entry 10). -/
def unknownOpcode (s : State) : Host.Outcome State Fault Refusal :=
  .fault (.unknownOpcode (fetchByte s).1 s.cpu.pc s)

/-- Fetch, decode, execute (rules R114, R300): the fetch branch of the CPU tick. -/
def fetchExecute (s : State) : Host.Outcome State Fault Refusal :=
  let f := fetchInstr s
  match decode f.1 with
  | .ok (i, _) => if i.wellFormed s.cfg then exec i f.2 else unknownOpcode s
  | .error _ => unknownOpcode s

/-- Service an NMI (rules R300, R303). -/
def serviceNmi (s : State) : State :=
  let t := interruptEntry s Config.nmiVector
  t.withCpu { t.cpu with nmiLatch := false }

/-- Service an IRQ (rules R300, R303, R306). -/
def serviceIrq (s : State) : State :=
  let t := interruptEntry s Config.irqVector
  { t with cpu := { t.cpu with irqLatch := false }, cart := t.cart.irqAck }

/-- One CPU tick (rule R300): countdown, NMI, IRQ, or fetch. -/
def cpuTick (s : State) : Host.Outcome State Fault Refusal :=
  if s.cpu.waitCycles > 0 then .next (setWait s (s.cpu.waitCycles - 1))
  else if s.cpu.nmiLatch then .next (serviceNmi s)
  else if s.cpu.irqLatch && !s.cpu.i then .next (serviceIrq s)
  else fetchExecute s

/-- The PPU part of a master tick (rule R341): every `PPU_DIV` master ticks.  Between PPU ticks the pixel
output is empty (DEDUCED, log entry 17). -/
def ppuPart (s : State) : State :=
  if s.master % s.cfg.ppuDiv.toNat = 0 then ppuTick s else { s with pixel := none }

/-- The CPU or DMA part of a master tick (rules R341, R344). -/
def cpuPart (s : State) : Host.Outcome State Fault Refusal :=
  if s.master % Config.cpuDiv = 0 then
    match (if s.dma.transfer then .next (dmaStep s) else cpuTick s) with
    | .next t => .next { t with cyc := t.cyc + 1 }
    | .fault r => .fault r
    | .refused r => .refused r
  else .next s

/-- The APU part of a master tick (rule R341). -/
def apuPart (s : State) : State :=
  if s.master % Config.apuDiv = 0 then apuStep s else s

/-- The poll of the IRQ sources at the end of a master tick (rules R306, R307, R341). -/
def pollIrq (s : State) : State :=
  s.withCpu
    { s.cpu with
      irqLatch := s.cpu.irqLatch || s.cart.irqPending || (s.cfg.frameIrqWired && s.apu.frameIrq) }

/-- What a master tick does after the CPU or DMA part (rule R341). -/
def finishTick (s : State) : State :=
  let t := pollIrq (apuPart s)
  { t with master := t.master + 1 }

/-- One master tick (rule R341): PPU, CPU or DMA, APU, IRQ poll, counter. -/
def masterTick (s : State) : Host.Outcome State Fault Refusal :=
  match cpuPart (ppuPart s) with
  | .next t => .next (finishTick t)
  | .fault r => .fault r
  | .refused r => .refused r

end Sys2Proof.Machine
end

