-- ==== Sys2Proof/Machine/Step.lean ====
section
/-! DEFINITION. The step of the machine is one master tick (spec/61_clock_dma.md rule R341). -/

namespace Sys2Proof.Machine

/-- One step: one master tick. -/
def step (s : State) : Host.Outcome State Fault Refusal := masterTick s

/-- The state with an opcode-table word placed where the next step fetches and runs it. -/
def State.withFetchWord (s : State) (nbits w : Nat) : State := placeWord s nbits w

end Sys2Proof.Machine
end

