-- ==== Sys2Proof/Safety.lean ====
section
/-! DEFINITION. The terms claims are stated in: the invariant of the machine, the states it can reach, and
what leaves a byte alone. -/

namespace Sys2Proof.Machine

/-- A board's memories are in canonical form; nothing is said of a cartridge whose behaviour is not given. -/
def Cart.wf : Cart → Bool
  | .board b => b.cpu.wf 65536 && b.chr.wf 8192
  | .mapper _ => true

/-- The invariant of the machine. -/
structure State.Inv (s : State) : Prop where
  /-- Work RAM is canonical, 2048 bytes (R38). -/
  ramWf : s.ram.wf Config.ramSize = true
  /-- OAM is canonical, 256 bytes (R50). -/
  oamWf : s.ppu.oam.wf Config.oamSize = true
  /-- Nametable RAM is canonical, 4096 bytes (R56). -/
  nametableWf : s.ppu.nametable.wf Config.nametableSize = true
  /-- Palette RAM is canonical, 32 bytes (R56). -/
  paletteWf : s.ppu.palette.wf Config.paletteSize = true
  cartWf : s.cart.wf = true
  /-- The cursor stays in 0..340 and -1..260 (R414). -/
  cycleLe : s.ppu.cycle ≤ 340
  scanlineGe : -1 ≤ s.ppu.scanline
  scanlineLe : s.ppu.scanline ≤ 260
  /-- The stored break flag is 0 (R30). -/
  breakClear : s.cpu.b = false
  /-- At most 8 selected sprites (R53), always 8 lanes (R54). -/
  spritesLe : s.ppu.sprites.length ≤ 8
  lanesEq : s.ppu.lanes.length = 8
  /-- Two bits of the attribute latch are used (R51). -/
  attrLt : s.ppu.nextTileAttr.toNat < 4
  /-- The sequencer position lies inside the frame (R57). -/
  fcPosLt : s.apu.fcPos < s.apu.frameLength
  /-- The largest countdown (R34). -/
  waitLe : s.cpu.waitCycles ≤ max 7 s.cfg.resetWait
  /-- The phase of the divider: one CPU-cadence tick for each three master ticks, the first at 0 (R342). -/
  phase : s.cyc = (s.master + 2) / 3

/-- The states reached from a power-on with any configuration, cartridge and memory contents, by master ticks
and host inputs between them (rules R340, R353, R500). -/
inductive Reachable : State → Prop where
  | boot (cfg : Config) (cart : Cart) (ram oam nametable palette : Memory)
      (hcart : cart.wf = true) (hram : ram.wf Config.ramSize = true) (hoam : oam.wf Config.oamSize = true)
      (hnt : nametable.wf Config.nametableSize = true) (hpal : palette.wf Config.paletteSize = true) :
      Reachable (boot cfg cart ram oam nametable palette)
  | step {s t : State} (h : Reachable s) (ht : step s = .next t) : Reachable t
  | input {s : State} (i : HostInput) (h : Reachable s) : Reachable (hostInput i s)

/-- A CPU address whose read changes nothing (rule R83): the cartridge declines it and it is none of the
addresses with a read side effect. -/
def quietAddr (s : State) (a : Word) : Prop :=
  s.cart.cpuTryRead a = none ∧
  (a.toNat < 0x2000 ∨ (0x2000 ≤ a.toNat ∧ a.toNat < 0x4000 ∧ a.toNat % 8 ≠ 2 ∧ a.toNat % 8 ≠ 7) ∨
    (0x4000 ≤ a.toNat ∧ a.toNat < 0x4015) ∨ 0x4017 < a.toNat)

/-- The cartridge leaves an address to the console bus, for reading and for writing (rule R74). -/
def declines (s : State) (a : Word) : Prop :=
  s.cart.cpuTryRead a = none ∧ ∀ v, s.cart.cpuWrite a v = none

/-- The cartridge leaves the whole stack page to work RAM (rule R21). -/
def stackIsRam (s : State) : Prop := ∀ sp : Byte, declines s (stackAddr sp)

/-- An instruction boundary with nothing to service (rules R300, R302): the CPU tick will fetch. -/
def readyToFetch (s : State) : Prop :=
  s.cpu.waitCycles = 0 ∧ s.cpu.nmiLatch = false ∧ (s.cpu.irqLatch = false ∨ s.cpu.i = true)

end Sys2Proof.Machine
end

