-- ==== Sys2Proof/Certificates/Slice0/Obligations.lean ====
section
/-! DEFINITION. The statements for the provers.  First the vocabulary they share: the rows of the opcode table by
mnemonic, integer arithmetic, iterated ticks.  Then one definition for each obligation. -/

namespace Sys2Proof.Claims

open Sys2Proof.Machine

/-! ### Rows of the opcode table -/

/-- One row of rule R119 with its operand bytes: the instruction, its opcode byte, its memory operand, its base
cycles, and whether it takes the page penalty. -/
structure Row where
  instr : Instr
  byte : Byte
  operand : Operand
  base : Nat
  penalty : Bool

/-- The CPU ticks a row takes: base cycles, and one more where the row has the penalty and indexing crosses a
page (rules R114, R130). -/
def ticks (r : Row) (s : State) : Nat :=
  r.base + if r.penalty && (resolve r.operand s).crossed then 1 else 0

/-- The eight-mode list of rule R180, shared by LDA (rule R151): the constructors, then their opcode bytes. -/
def eightModes (imm zp zpx : Byte → Instr) (abs abx aby : Word → Instr) (izx izy : Byte → Instr)
    (b1 b2 b3 b4 b5 b6 b7 b8 : Byte) (d : Byte) (w : Word) : List Row :=
  [⟨imm d, b1, .imm d, 2, false⟩, ⟨zp d, b2, .zp d, 3, false⟩, ⟨zpx d, b3, .zpx d, 4, false⟩,
   ⟨abs w, b4, .abs w, 4, false⟩, ⟨abx w, b5, .abx w, 4, true⟩, ⟨aby w, b6, .aby w, 4, true⟩,
   ⟨izx d, b7, .izx d, 6, false⟩, ⟨izy d, b8, .izy d, 5, true⟩]

/-- The four-mode list of rule R200. -/
def fourModes (zp zpx : Byte → Instr) (abs abx : Word → Instr) (b1 b2 b3 b4 : Byte) (d : Byte) (w : Word) :
    List Row :=
  [⟨zp d, b1, .zp d, 5, false⟩, ⟨zpx d, b2, .zpx d, 6, false⟩, ⟨abs w, b3, .abs w, 6, false⟩,
   ⟨abx w, b4, .abx w, 7, false⟩]

/-- The seven-mode list of rule R265. -/
def sevenModes (zp zpx : Byte → Instr) (abs abx aby : Word → Instr) (izx izy : Byte → Instr)
    (b1 b2 b3 b4 b5 b6 b7 : Byte) (d : Byte) (w : Word) : List Row :=
  [⟨zp d, b1, .zp d, 5, false⟩, ⟨zpx d, b2, .zpx d, 6, false⟩, ⟨abs w, b3, .abs w, 6, false⟩,
   ⟨abx w, b4, .abx w, 7, false⟩, ⟨aby w, b5, .aby w, 7, false⟩, ⟨izx d, b6, .izx d, 8, false⟩,
   ⟨izy d, b7, .izy d, 8, false⟩]

def ldaRows : Byte → Word → List Row :=
  eightModes .ldaImm .ldaZp .ldaZpx .ldaAbs .ldaAbx .ldaAby .ldaIzx .ldaIzy
    0xA9 0xA5 0xB5 0xAD 0xBD 0xB9 0xA1 0xB1
def adcRows : Byte → Word → List Row :=
  eightModes .adcImm .adcZp .adcZpx .adcAbs .adcAbx .adcAby .adcIzx .adcIzy
    0x69 0x65 0x75 0x6D 0x7D 0x79 0x61 0x71
def sbcRows : Byte → Word → List Row :=
  eightModes .sbcImm .sbcZp .sbcZpx .sbcAbs .sbcAbx .sbcAby .sbcIzx .sbcIzy
    0xE9 0xE5 0xF5 0xED 0xFD 0xF9 0xE1 0xF1
def andRows : Byte → Word → List Row :=
  eightModes .andImm .andZp .andZpx .andAbs .andAbx .andAby .andIzx .andIzy
    0x29 0x25 0x35 0x2D 0x3D 0x39 0x21 0x31
def oraRows : Byte → Word → List Row :=
  eightModes .oraImm .oraZp .oraZpx .oraAbs .oraAbx .oraAby .oraIzx .oraIzy
    0x09 0x05 0x15 0x0D 0x1D 0x19 0x01 0x11
def eorRows : Byte → Word → List Row :=
  eightModes .eorImm .eorZp .eorZpx .eorAbs .eorAbx .eorAby .eorIzx .eorIzy
    0x49 0x45 0x55 0x4D 0x5D 0x59 0x41 0x51
def cmpRows : Byte → Word → List Row :=
  eightModes .cmpImm .cmpZp .cmpZpx .cmpAbs .cmpAbx .cmpAby .cmpIzx .cmpIzy
    0xC9 0xC5 0xD5 0xCD 0xDD 0xD9 0xC1 0xD1

/-- LDX (rule R152). -/
def ldxRows (d : Byte) (w : Word) : List Row :=
  [⟨.ldxImm d, 0xA2, .imm d, 2, false⟩, ⟨.ldxZp d, 0xA6, .zp d, 3, false⟩, ⟨.ldxZpy d, 0xB6, .zpy d, 4, false⟩,
   ⟨.ldxAbs w, 0xAE, .abs w, 4, false⟩, ⟨.ldxAby w, 0xBE, .aby w, 4, true⟩]

/-- LDY (rule R153). -/
def ldyRows (d : Byte) (w : Word) : List Row :=
  [⟨.ldyImm d, 0xA0, .imm d, 2, false⟩, ⟨.ldyZp d, 0xA4, .zp d, 3, false⟩, ⟨.ldyZpx d, 0xB4, .zpx d, 4, false⟩,
   ⟨.ldyAbs w, 0xAC, .abs w, 4, false⟩, ⟨.ldyAbx w, 0xBC, .abx w, 4, true⟩]

/-- LAX (rule R262). -/
def laxRows (d : Byte) (w : Word) : List Row :=
  [⟨.laxZp d, 0xA7, .zp d, 3, false⟩, ⟨.laxZpy d, 0xB7, .zpy d, 4, false⟩, ⟨.laxAbs w, 0xAF, .abs w, 4, false⟩,
   ⟨.laxAby w, 0xBF, .aby w, 4, true⟩, ⟨.laxIzx d, 0xA3, .izx d, 6, false⟩, ⟨.laxIzy d, 0xB3, .izy d, 5, true⟩]

/-- CPX (rule R190). -/
def cpxRows (d : Byte) (w : Word) : List Row :=
  [⟨.cpxImm d, 0xE0, .imm d, 2, false⟩, ⟨.cpxZp d, 0xE4, .zp d, 3, false⟩, ⟨.cpxAbs w, 0xEC, .abs w, 4, false⟩]

/-- CPY (rule R191). -/
def cpyRows (d : Byte) (w : Word) : List Row :=
  [⟨.cpyImm d, 0xC0, .imm d, 2, false⟩, ⟨.cpyZp d, 0xC4, .zp d, 3, false⟩, ⟨.cpyAbs w, 0xCC, .abs w, 4, false⟩]

/-- BIT (rule R192). -/
def bitRows (d : Byte) (w : Word) : List Row := [⟨.bitZp d, 0x24, .zp d, 3, false⟩, ⟨.bitAbs w, 0x2C, .abs w, 4, false⟩]

/-- The second SBC immediate (rule R264). -/
def sbcEbRows (d : Byte) (_ : Word) : List Row := [⟨.sbcImmEB d, 0xEB, .imm d, 2, false⟩]

/-- The unofficial NOPs that have an operand (rule R261). -/
def nopRows (d : Byte) (w : Word) : List Row :=
  [⟨.nopImm80 d, 0x80, .imm d, 2, false⟩, ⟨.nopZp04 d, 0x04, .zp d, 3, false⟩, ⟨.nopZp44 d, 0x44, .zp d, 3, false⟩,
   ⟨.nopZp64 d, 0x64, .zp d, 3, false⟩, ⟨.nopZpx14 d, 0x14, .zpx d, 4, false⟩, ⟨.nopZpx34 d, 0x34, .zpx d, 4, false⟩,
   ⟨.nopZpx54 d, 0x54, .zpx d, 4, false⟩, ⟨.nopZpx74 d, 0x74, .zpx d, 4, false⟩, ⟨.nopZpxD4 d, 0xD4, .zpx d, 4, false⟩,
   ⟨.nopZpxF4 d, 0xF4, .zpx d, 4, false⟩, ⟨.nopAbs0C w, 0x0C, .abs w, 4, false⟩, ⟨.nopAbx1C w, 0x1C, .abx w, 4, true⟩,
   ⟨.nopAbx3C w, 0x3C, .abx w, 4, true⟩, ⟨.nopAbx5C w, 0x5C, .abx w, 4, true⟩, ⟨.nopAbx7C w, 0x7C, .abx w, 4, true⟩,
   ⟨.nopAbxDC w, 0xDC, .abx w, 4, true⟩, ⟨.nopAbxFC w, 0xFC, .abx w, 4, true⟩]

/-- STA (rule R154). -/
def staRows (d : Byte) (w : Word) : List Row :=
  [⟨.staZp d, 0x85, .zp d, 3, false⟩, ⟨.staZpx d, 0x95, .zpx d, 4, false⟩, ⟨.staAbs w, 0x8D, .abs w, 4, false⟩,
   ⟨.staAbx w, 0x9D, .abx w, 5, false⟩, ⟨.staAby w, 0x99, .aby w, 5, false⟩, ⟨.staIzx d, 0x81, .izx d, 6, false⟩,
   ⟨.staIzy d, 0x91, .izy d, 6, false⟩]

/-- STX (rule R155). -/
def stxRows (d : Byte) (w : Word) : List Row :=
  [⟨.stxZp d, 0x86, .zp d, 3, false⟩, ⟨.stxZpy d, 0x96, .zpy d, 4, false⟩, ⟨.stxAbs w, 0x8E, .abs w, 4, false⟩]

/-- STY (rule R156). -/
def styRows (d : Byte) (w : Word) : List Row :=
  [⟨.styZp d, 0x84, .zp d, 3, false⟩, ⟨.styZpx d, 0x94, .zpx d, 4, false⟩, ⟨.styAbs w, 0x8C, .abs w, 4, false⟩]

/-- SAX (rule R263). -/
def saxRows (d : Byte) (w : Word) : List Row :=
  [⟨.saxZp d, 0x87, .zp d, 3, false⟩, ⟨.saxZpy d, 0x97, .zpy d, 4, false⟩, ⟨.saxAbs w, 0x8F, .abs w, 4, false⟩,
   ⟨.saxIzx d, 0x83, .izx d, 6, false⟩]

def aslRows : Byte → Word → List Row :=
  fourModes .aslZp .aslZpx .aslAbs .aslAbx
    0x06 0x16 0x0E 0x1E
def lsrRows : Byte → Word → List Row :=
  fourModes .lsrZp .lsrZpx .lsrAbs .lsrAbx
    0x46 0x56 0x4E 0x5E
def rolRows : Byte → Word → List Row :=
  fourModes .rolZp .rolZpx .rolAbs .rolAbx
    0x26 0x36 0x2E 0x3E
def rorRows : Byte → Word → List Row :=
  fourModes .rorZp .rorZpx .rorAbs .rorAbx
    0x66 0x76 0x6E 0x7E
def incRows : Byte → Word → List Row :=
  fourModes .incZp .incZpx .incAbs .incAbx
    0xE6 0xF6 0xEE 0xFE
def decRows : Byte → Word → List Row :=
  fourModes .decZp .decZpx .decAbs .decAbx
    0xC6 0xD6 0xCE 0xDE

def sloRows : Byte → Word → List Row :=
  sevenModes .sloZp .sloZpx .sloAbs .sloAbx .sloAby .sloIzx .sloIzy
    0x07 0x17 0x0F 0x1F 0x1B 0x03 0x13
def rlaRows : Byte → Word → List Row :=
  sevenModes .rlaZp .rlaZpx .rlaAbs .rlaAbx .rlaAby .rlaIzx .rlaIzy
    0x27 0x37 0x2F 0x3F 0x3B 0x23 0x33
def sreRows : Byte → Word → List Row :=
  sevenModes .sreZp .sreZpx .sreAbs .sreAbx .sreAby .sreIzx .sreIzy
    0x47 0x57 0x4F 0x5F 0x5B 0x43 0x53
def rraRows : Byte → Word → List Row :=
  sevenModes .rraZp .rraZpx .rraAbs .rraAbx .rraAby .rraIzx .rraIzy
    0x67 0x77 0x6F 0x7F 0x7B 0x63 0x73
def dcpRows : Byte → Word → List Row :=
  sevenModes .dcpZp .dcpZpx .dcpAbs .dcpAbx .dcpAby .dcpIzx .dcpIzy
    0xC7 0xD7 0xCF 0xDF 0xDB 0xC3 0xD3
def isbRows : Byte → Word → List Row :=
  sevenModes .isbZp .isbZpx .isbAbs .isbAbx .isbAby .isbIzx .isbIzy
    0xE7 0xF7 0xEF 0xFF 0xFB 0xE3 0xF3

/-- The eight branches with their opcode bytes and conditions (rules R233 to R240). -/
def branches : List ((Byte → Instr) × Byte × (Cpu → Bool)) :=
  [(.bcc, 0x90, fun c => !c.c), (.bcs, 0xB0, fun c => c.c), (.beq, 0xF0, fun c => c.z), (.bne, 0xD0, fun c => !c.z),
   (.bmi, 0x30, fun c => c.n), (.bpl, 0x10, fun c => !c.n), (.bvc, 0x50, fun c => !c.v), (.bvs, 0x70, fun c => c.v)]

/-- The rows that read memory and store nothing. -/
def readingRows (d : Byte) (w : Word) : List Row :=
  ldaRows d w ++ ldxRows d w ++ ldyRows d w ++ laxRows d w ++ adcRows d w ++ sbcRows d w ++ sbcEbRows d w ++
  andRows d w ++ oraRows d w ++ eorRows d w ++ cmpRows d w ++ cpxRows d w ++ cpyRows d w ++ bitRows d w ++
  nopRows d w

/-- The rows that store one byte at their effective address. -/
def storingRows (d : Byte) (w : Word) : List Row :=
  staRows d w ++ stxRows d w ++ styRows d w ++ saxRows d w ++ aslRows d w ++ lsrRows d w ++ rolRows d w ++
  rorRows d w ++ incRows d w ++ decRows d w ++ sloRows d w ++ rlaRows d w ++ sreRows d w ++ rraRows d w ++
  dcpRows d w ++ isbRows d w

/-- The instructions without a memory operand that store nothing. -/
def registerForms (d : Byte) (w : Word) : List Instr :=
  [.tax, .tay, .txa, .tya, .tsx, .txs, .pla, .plp, .aslAcc, .lsrAcc, .rolAcc, .rorAcc,
   .inx, .iny, .dex, .dey, .jmpAbs w, .jmpInd w, .rts, .rti,
   .bcc d, .bcs d, .beq d, .bne d, .bmi d, .bpl d, .bvc d, .bvs d,
   .clc, .sec, .cli, .sei, .clv, .cld, .sed, .nop, .nop1A, .nop3A, .nop5A, .nop7A, .nopDA, .nopFA]

/-- The instructions that push, with the number of bytes they push. -/
def pushingForms (w : Word) : List (Instr × Nat) := [(.pha, 1), (.php, 1), (.jsr w, 2), (.brk, 3)]

/-! ### What a form does -/

/-- Every form of the rows has its opcode byte and answers a next state, from every state: the CPU registers are `f`
of the byte read and the registers before, with the countdown one less than the row's ticks; the rest of the machine
is as the operand's bus reads leave it. -/
def Reads (rows : Byte → Word → List Row) (f : Byte → Cpu → Cpu) : Prop :=
  ∀ (d : Byte) (w : Word), ∀ r ∈ rows d w, opcode r.instr = r.byte ∧ ∀ s : State,
    exec r.instr s =
      .next ((operandRead r.operand (resolve r.operand s)).2.withCpu
        (f (operandRead r.operand (resolve r.operand s)).1 { s.cpu with waitCycles := ticks r s - 1 }))

/-- Every form of the rows has its opcode byte and answers a next state, from every state: one write of `val` of the
registers at the effective address, which is not read; no register changes but the countdown, and no penalty is
taken. -/
def Writes (rows : Byte → Word → List Row) (val : Cpu → Byte) : Prop :=
  ∀ (d : Byte) (w : Word), ∀ r ∈ rows d w, opcode r.instr = r.byte ∧ ∀ s : State,
    exec r.instr s =
      .next ((memWrite (resolve r.operand s).st (resolve r.operand s).ea (val s.cpu)).withCpu
        { s.cpu with waitCycles := r.base - 1 })

/-- Every form of the rows has its opcode byte and answers a next state, from every state: one read of the effective
address giving `m`, then one write there of `out m` of the registers; the registers become `after` of `m`, the byte
written and the registers before; no penalty is taken. -/
def Modifies (rows : Byte → Word → List Row) (out : Byte → Cpu → Byte) (after : Byte → Byte → Cpu → Cpu) : Prop :=
  ∀ (d : Byte) (w : Word), ∀ r ∈ rows d w, opcode r.instr = r.byte ∧ ∀ s : State,
    let q := resolve r.operand s
    let m := peek q.st q.ea
    exec r.instr s =
      .next ((memWrite (readEffects q.st q.ea) q.ea (out m s.cpu)).withCpu
        (after m (out m s.cpu) { s.cpu with waitCycles := r.base - 1 }))

/-- The instruction has the opcode byte `byte` and answers a next state, from every state, in which only the CPU
registers changed: they are `f` of those before, with a countdown of `ticks - 1`. -/
def Registers (i : Instr) (byte : Byte) (ticks : Nat) (f : Cpu → Cpu) : Prop :=
  opcode i = byte ∧ ∀ s : State, exec i s = .next (s.withCpu (f { s.cpu with waitCycles := ticks - 1 }))

/-- `SetZN` of rule R9 on a result. -/
def withZN (c : Cpu) (v : Byte) : Cpu := { c with z := decide (v = 0), n := v.getLsbD 7 }

/-- The carry as a number. -/
def carry (c : Cpu) : Nat := if c.c then 1 else 0

/-- Addition with carry on integers (rule R182): the sum modulo 256, the carry out of the unsigned sum, and `V`
exactly when the signed sum lies outside -128..127. -/
def addInts (c : Cpu) (m : Byte) : Cpu :=
  let sum := c.a.toNat + m.toNat + carry c
  let signed : Int := c.a.toInt + m.toInt + (carry c : Int)
  withZN
    { c with
      a := BitVec.ofNat 8 sum
      c := decide (256 ≤ sum)
      v := decide (signed < -128 ∨ 127 < signed) }
    (BitVec.ofNat 8 sum)

/-- Subtraction with borrow on integers (rule R184): `A - M - (1 - C)` modulo 256, `C` for no borrow, `V` for
signed overflow of the subtraction. -/
def subInts (c : Cpu) (m : Byte) : Cpu :=
  let borrow : Int := 1 - (carry c : Int)
  let diff : Int := (c.a.toNat : Int) - (m.toNat : Int) - borrow
  let signed : Int := c.a.toInt - m.toInt - borrow
  withZN
    { c with
      a := BitVec.ofInt 8 diff
      c := decide (0 ≤ diff)
      v := decide (signed < -128 ∨ 127 < signed) }
    (BitVec.ofInt 8 diff)

/-- The comparator on integers (rule R188). -/
def compareInts (c : Cpu) (r m : Byte) : Cpu :=
  { c with
    c := decide (m.toNat ≤ r.toNat)
    z := decide (r = m)
    n := (BitVec.ofInt 8 ((r.toNat : Int) - m.toNat)).getLsbD 7 }

/-- The flags of a shift or rotate: `C` is the bit shifted out, `Z` and `N` are those of the result. -/
def shiftFlags (c : Cpu) (out : Bool) (r : Byte) : Cpu := withZN { c with c := out } r

/-- The stack cell a push at `sp` writes (rule R21). -/
def cell (sp : Byte) : Word := BitVec.ofNat 16 (0x0100 + sp.toNat)

/-! ### Iterated ticks -/

/-- `n` CPU ticks. -/
def cpuTicks : Nat → State → Host.Outcome State Fault Refusal
  | 0, s => .next s
  | n + 1, s =>
    match cpuTick s with
    | .next t => cpuTicks n t
    | .fault r => .fault r
    | .refused r => .refused r

/-- `n` CPU-cadence ticks given to the DMA unit, `cyc` counted as rule R341 does. -/
def dmaTicks : Nat → State → State
  | 0, s => s
  | n + 1, s =>
    let t := dmaStep s
    dmaTicks n { t with cyc := t.cyc + 1 }

/-- `n` PPU ticks. -/
def ppuTicks : Nat → State → State
  | 0, s => s
  | n + 1, s => ppuTicks n (ppuTick s)

/-- `n` APU steps. -/
def apuSteps : Nat → Apu → Apu
  | 0, a => a
  | n + 1, a => apuSteps n a.step

/-- `n` envelope clocks under one control byte. -/
def envelopeClocks (control : Byte) : Nat → Envelope → Envelope
  | 0, e => e
  | n + 1, e => envelopeClocks control n (e.clock control)

/-- The values of `n` reads of one CPU address. -/
def readsOf (a : Word) : Nat → State → List Byte
  | 0, _ => []
  | n + 1, s => (memRead s a).1 :: readsOf a n (memRead s a).2

/-- The state after `n` reads of one CPU address. -/
def afterReads (a : Word) : Nat → State → State
  | 0, s => s
  | n + 1, s => afterReads a n (memRead s a).2

/-! ### Memory -/

/-- A CPU address whose byte is memory on a board: work RAM the board leaves alone, or an address it claims. -/
def isMemory (b : Board) (a : Word) : Prop := a.toNat < 0x2000 ∨ b.claimsCpu a = true

/-- Two memory addresses name the same byte of a machine with board `b`: the same claimed address, or two
mirrors of one work RAM byte (rule R76). -/
def sameByte (b : Board) (a1 a2 : Word) : Prop :=
  if b.claimsCpu a1 = true ∨ b.claimsCpu a2 = true then a1 = a2
  else a1.toNat < 0x2000 ∧ a2.toNat < 0x2000 ∧ a1.toNat % 2048 = a2.toNat % 2048

/-- The bytes of `s` and `t` at every memory address outside `changed` read alike. -/
def memoryKept (b : Board) (s t : State) (changed : Word → Prop) : Prop :=
  ∀ a : Word, isMemory b a → ¬ changed a → peek t a = peek s a

/-- The 29 undefined opcode bytes, as rule R132 lists them. -/
def undefinedBytes : List Byte :=
  [0x02, 0x12, 0x22, 0x32, 0x42, 0x52, 0x62, 0x72, 0x92, 0xB2, 0xD2, 0xF2, 0x82, 0x89, 0xC2, 0xE2,
   0x0B, 0x2B, 0x4B, 0x6B, 0x8B, 0xAB, 0xCB, 0x93, 0x9F, 0x9C, 0x9E, 0x9B, 0xBB]

/-- The physical nametable of logical table `t` under a mirroring mode, the table of rule R392. -/
def physical (m : Mirroring) (single t : Nat) : Nat :=
  match m with
  | .vertical => [0, 1, 0, 1].getD t 0
  | .horizontal => [0, 0, 1, 1].getD t 0
  | .singleScreen => single
  | .fourScreen => t

/-- The byte of PPU memory behind a PPU address from 0x2000 up: `(false, i)` is byte `i` of nametable RAM,
`(true, i)` byte `i` of palette RAM (rules R392, R393). -/
def ppuCell (m : Mirroring) (single : Nat) (a : PpuAddr) : Bool × Nat :=
  if a.toNat < 0x3F00 then
    (false, physical m single (a.toNat % 0x1000 / 0x400) * 0x400 + a.toNat % 0x400)
  else
    let i := a.toNat % 32
    (true, if i % 4 = 0 ∧ 16 ≤ i then i - 16 else i)

/-! ### The dot of a PPU tick -/

/-- `rendering` of rule R400: either layer is enabled. -/
def layersOn (p : Ppu) : Bool := p.mask.getLsbD 3 || p.mask.getLsbD 4

/-- The cycle a PPU tick acts on: the first dot of line 0 is passed over in an odd frame with rendering enabled
(rule R401). -/
def dot (p : Ppu) : Nat :=
  if p.scanline = 0 ∧ p.cycle = 0 ∧ p.oddFrame = true ∧ layersOn p = true then 1 else p.cycle

/-- The tick finds a renderable line, -1..239 (rule R400). -/
def renderable (p : Ppu) : Bool := decide (-1 ≤ p.scanline) && decide (p.scanline ≤ 239)

/-- The tick finds a visible line, 0..239 (rule R400). -/
def visibleLine (p : Ppu) : Bool := decide (0 ≤ p.scanline) && decide (p.scanline ≤ 239)

/-- The tick is one of the background pipeline's: cycles `BgPipeStart..257` and 321..337 of a renderable line
(rules R400, R403). -/
def inPipe (s : State) : Bool :=
  let c := dot s.ppu
  renderable s.ppu && ((decide ((if s.cfg.bgPipeStart = .one then 1 else 2) ≤ c) && decide (c ≤ 257)) ||
    (decide (321 ≤ c) && decide (c ≤ 337)))

/-- The tick does the pipeline's phase of cycles congruent to `k` modulo 8: 1 is phase 0, 3 phase 2, 5 phase 4 and 7
phase 6 (rules R406 to R409). -/
def inPhase (s : State) (k : Nat) : Bool := inPipe s && decide (dot s.ppu % 8 = k)

/-- A background shift register after the tick: shifted left by one bit if the background is enabled, then, at phase
0, its low byte replaced (rules R405, R406, R412). -/
def shifterAfter (s : State) (r : Word) (low : Nat) : Word :=
  let r1 := if inPipe s && s.ppu.mask.getLsbD 3 then 2 * r.toNat % 65536 else r.toNat
  BitVec.ofNat 16 (if inPhase s 1 then r1 / 256 * 256 + low else r1)

/-- The low byte an attribute bit loads: eight copies of it (rule R412). -/
def eightCopies (b : Bool) : Nat := if b then 255 else 0

/-- The pattern address of the background tile fetched: table, tile, fine Y (rule R408). -/
def tileRowAddr (p : Ppu) : Nat :=
  (if p.ctrl.getLsbD 4 then 4096 else 0) + p.nextTileId.toNat * 16 + p.vramAddr.toNat / 4096

/-- The background at cycle `c`, as colour and palette (rule R430). -/
def background (p : Ppu) (c : Nat) : Nat × Nat :=
  let b := 15 - p.fineX.toNat
  if p.mask.getLsbD 3 = true ∧ (p.mask.getLsbD 1 = true ∨ 9 ≤ c) then
    (2 * (p.bgPatHi.getLsbD b).toNat + (p.bgPatLo.getLsbD b).toNat,
      2 * (p.bgAttrHi.getLsbD b).toNat + (p.bgAttrLo.getLsbD b).toNat)
  else (0, 0)

/-- The colour a sprite lane shows: its two leftmost bits (rule R431). -/
def laneColour (l : Lane) : Nat := 2 * (l.hi.getLsbD 7).toNat + (l.lo.getLsbD 7).toNat

/-- The selected sprite shown at cycle `c`, with its lane and its place in the buffer: the first one whose count is 0
and whose colour is not 0 (rule R431). -/
def foreground (p : Ppu) (c : Nat) : Option ((Sprite × Lane) × Nat) :=
  if p.mask.getLsbD 4 = true ∧ (p.mask.getLsbD 2 = true ∨ 9 ≤ c) then
    (p.sprites.zip p.lanes).zipIdx.find? fun e => e.1.1.x == 0 && laneColour e.1.2 != 0
  else none

/-- The place of the palette entry shown at cycle `c`, by the combination table: `4 * palette + colour`, with the
backdrop at 0 (rule R432). -/
def shownIndex (p : Ppu) (c : Nat) : Nat :=
  let bg := background p c
  match foreground p c with
  | none => if bg.1 = 0 then 0 else 4 * bg.2 + bg.1
  | some ((sp, l), _) =>
    if bg.1 = 0 ∨ sp.attr.getLsbD 5 = false then 4 * (4 + sp.attr.toNat % 4) + laneColour l else 4 * bg.2 + bg.1

/-- Sprite zero is hit at cycle `c`: both layers are opaque, the sprite shown is the first of the buffer and OAM entry
0, and both layers are enabled (rule R434). -/
def spriteZeroHit (p : Ppu) (c : Nat) : Bool :=
  (background p c).1 != 0 && p.mask.getLsbD 3 && p.mask.getLsbD 4 && p.sprZeroSelected &&
    match foreground p c with
    | none => false
    | some (_, k) => k == 0

/-- The address of the low pattern byte of a selected sprite on the line, on integers; vertical flip from attribute
bit 7 (rule R421). -/
def spriteRowAddr (p : Ppu) (sp : Sprite) : Int :=
  let h : Int := if p.ctrl.getLsbD 5 then 16 else 8
  let r : Int := if sp.attr.getLsbD 7 then h - 1 - (p.scanline - sp.y.toNat) else p.scanline - sp.y.toNat
  let tile : Int := sp.tile.toNat
  if p.ctrl.getLsbD 5 then tile % 2 * 4096 + (tile / 2 * 2 + r / 8) * 16 + r % 8
  else (if p.ctrl.getLsbD 3 then 4096 else 0) + tile * 16 + r

/-! ### The APU's units -/

/-- Every length counter that is not enabled is 0. -/
def disabledAreZero (a : Apu) : Prop :=
  (a.pulse1.length.enabled = false → a.pulse1.length.len = 0) ∧
  (a.pulse2.length.enabled = false → a.pulse2.length.len = 0) ∧
  (a.triangle.length.enabled = false → a.triangle.length.len = 0) ∧
  (a.noise.length.enabled = false → a.noise.length.len = 0)

/-- An envelope after one clock under a control byte (rule R457). -/
def envelopeAfter (control : Byte) (e : Envelope) : Envelope :=
  let vol := BitVec.ofNat 4 control.toNat
  let decay : Nat :=
    if e.start then 15
    else if e.divider.toNat = 0 then
      (if e.decay.toNat = 0 then (if control.getLsbD 5 then 15 else 0) else e.decay.toNat - 1)
    else e.decay.toNat
  ⟨false, if e.start ∨ e.divider.toNat = 0 then vol else BitVec.ofNat 4 (e.divider.toNat - 1), BitVec.ofNat 4 decay,
    if control.getLsbD 4 then vol else BitVec.ofNat 4 decay⟩

/-- A length counter after one clock (rule R458). -/
def lengthAfter (halt : Bool) (l : Length) : Length :=
  { l with len := if halt then l.len else BitVec.ofNat 8 (l.len.toNat - 1) }

/-- The sweep target of a pulse channel, on integers; `first` says it is pulse 1 (rule R464). -/
def target (first : Bool) (p : Pulse) : Int :=
  let timer : Int := p.timer.toNat
  let change : Int := timer / 2 ^ (p.sweep.toNat % 8)
  if p.sweep.getLsbD 3 then max 0 (if first then timer - change - 1 else timer - change) else timer + change

/-- The units of an APU after a quarter-frame clock, a half-frame clock, both or neither: the first clocks the
envelopes and the linear counter, the second the length counters and the sweep units (rules R454, R455, R473; the
sweep clock is that of obligation SweepMovesTimer). -/
def clocked (quarter half : Bool) (a : Apu) : Apu :=
  let pulse : Bool → Pulse → Pulse := fun first p =>
    { (if half then p.clockSweep first else p) with
      envelope := if quarter then envelopeAfter p.control p.envelope else p.envelope
      length := if half then lengthAfter (p.control.getLsbD 5) p.length else p.length }
  let t := a.triangle
  { a with
    pulse1 := pulse true a.pulse1
    pulse2 := pulse false a.pulse2
    triangle :=
      { t with
        linearCounter :=
          BitVec.ofNat 7
            (if quarter then (if t.linearReload then t.linear.toNat else t.linearCounter.toNat - 1)
            else t.linearCounter.toNat)
        linearReload := t.linearReload && !(quarter && !t.linear.getLsbD 7)
        length := if half then lengthAfter (t.linear.getLsbD 7) t.length else t.length }
    noise :=
      { a.noise with
        envelope := if quarter then envelopeAfter a.noise.control a.noise.envelope else a.noise.envelope
        length := if half then lengthAfter (a.noise.control.getLsbD 5) a.noise.length else a.noise.length } }

/-- The output tuple (rules R466, R487). -/
def soundOf (a : Apu) : Sound :=
  let pulse : Bool → Pulse → PulseOut := fun first p =>
    { enabled := p.length.len != 0
      period := p.timer
      duty := BitVec.ofNat 2 (p.control.toNat / 64)
      amplitude :=
        if p.envelope.output.toNat ≤ 2 ∨ p.length.len = 0 ∨ p.timer.toNat < 8 ∨ 0x7FF < target first p then 0
        else p.envelope.output }
  { pulse1 := pulse true a.pulse1
    pulse2 := pulse false a.pulse2
    triangle :=
      { enabled := a.triangle.length.len != 0 && a.triangle.linearCounter != 0
        period := BitVec.ofNat 11 (a.triangle.timerHigh.toNat * 256 + a.triangle.timerLow.toNat) }
    noise :=
      { enabled := a.noise.length.len != 0
        period :=
          [4, 8, 16, 32, 64, 96, 128, 160, 202, 254, 380, 508, 762, 1016, 2034, 4068].getD
            (a.noise.period.toNat % 16) 0
        mode := a.noise.period.getLsbD 7
        amplitude := a.noise.envelope.output } }

/-- A length counter after a write of `v` to its channel's length register, with the table of rule R459
(rule R458). -/
def lengthLoaded (v : Byte) (l : Length) : Length :=
  if l.enabled then
    { l with
      len :=
        [10, 254, 20, 2, 40, 4, 80, 6, 160, 8, 60, 10, 14, 12, 26, 14,
          12, 16, 24, 18, 48, 20, 96, 22, 192, 24, 72, 26, 16, 28, 32, 30].getD (v.toNat / 8) 0 }
  else l

/-- The envelope output recomputed under a control byte (rule R457, last sentence). -/
def recomputed (control : Byte) (e : Envelope) : Envelope :=
  { e with output := if control.getLsbD 4 then BitVec.ofNat 4 control.toNat else e.decay }

/-- A pulse channel after a write of `v` to the first, second, third or fourth of its registers
(rules R460 to R463). -/
def pulseWritten (reg : Nat) (v : Byte) (p : Pulse) : Pulse :=
  match reg with
  | 0 => { p with control := v, envelope := recomputed v p.envelope }
  | 1 => { p with sweep := v, swReload := true }
  | 2 => { p with timerLow := v, timer := BitVec.ofNat 11 (p.timer.toNat / 256 * 256 + v.toNat) }
  | _ =>
    { p with
      timerHigh := v
      timer := BitVec.ofNat 11 (v.toNat % 8 * 256 + p.timer.toNat % 256)
      length := lengthLoaded v p.length
      envelope := { p.envelope with start := true } }

/-- A length counter after a channel enable bit is written (rule R480). -/
def switched (on : Bool) (l : Length) : Length := ⟨if on then l.len else 0, on⟩

/-- The APU after a CPU write of `v` to 0x4000 + `reg` (rules R451, R460 to R463, R470 to R477, R480, R484, R486). -/
def written (reg : Nat) (v : Byte) (a : Apu) : Apu :=
  if reg < 4 then { a with pulse1 := pulseWritten reg v a.pulse1 }
  else if reg < 8 then { a with pulse2 := pulseWritten (reg - 4) v a.pulse2 }
  else
    match reg with
    | 0x08 => { a with triangle := { a.triangle with linear := v } }
    | 0x0A => { a with triangle := { a.triangle with timerLow := v } }
    | 0x0B =>
      { a with
        triangle :=
          { a.triangle with timerHigh := v, length := lengthLoaded v a.triangle.length, linearReload := true } }
    | 0x0C => { a with noise := { a.noise with control := v, envelope := recomputed v a.noise.envelope } }
    | 0x0E => { a with noise := { a.noise with period := v } }
    | 0x0F =>
      { a with
        noise :=
          { a.noise with
            lengthReg := v
            length := lengthLoaded v a.noise.length
            envelope := { a.noise.envelope with start := true } } }
    | 0x15 =>
      { a with
        pulse1 := { a.pulse1 with length := switched (v.getLsbD 0) a.pulse1.length }
        pulse2 := { a.pulse2 with length := switched (v.getLsbD 1) a.pulse2.length }
        triangle := { a.triangle with length := switched (v.getLsbD 2) a.triangle.length }
        noise := { a.noise with length := switched (v.getLsbD 3) a.noise.length } }
    | 0x17 =>
      let five := v.getLsbD 7
      { clocked five five a with
        fcMode := five
        fcIrqInhibit := v.getLsbD 6
        frameIrq := a.frameIrq && !v.getLsbD 6
        fcPos := 0 }
    | _ => a

end Sys2Proof.Claims

section

open Sys2Proof Sys2Proof.Machine Sys2Proof.Claims

/-! ### Encoding -/

/-- Decode and encode agree on every instruction, with every operand at every value, whatever bytes follow. -/
def Obligations.DecodeOfEncode : Prop :=
  ∀ (i : Instr) (rest : List Byte), decode (encode i ++ rest) = .ok (i, rest)

/-- What decodes is exactly the encoding of what it decodes to, followed by the bytes left over: every byte
string has at most one reading, and no operand bit is dropped. -/
def Obligations.EncodeOfDecode : Prop :=
  ∀ (bytes rest : List Byte) (i : Instr), decode bytes = .ok (i, rest) → bytes = encode i ++ rest

/-- Decoding refuses exactly the 29 bytes of rule R132, by name; any other opcode byte with two bytes after it
decodes. -/
def Obligations.UndefinedBytesRefused : Prop :=
  ∀ (op b1 b2 : Byte) (rest : List Byte),
    (op ∈ undefinedBytes → decode (op :: rest) = .error (.undefinedOpcode op)) ∧
    (op ∉ undefinedBytes → ∃ i left, decode (op :: b1 :: b2 :: rest) = .ok (i, left) ∧ opcode i = op)

/-- Words written out from rule R119, one of each family and format. -/
def Obligations.WordsDecode : Prop :=
  decode [0xA9, 0x42] = .ok (.ldaImm 0x42, []) ∧
  decode [0x9D, 0x34, 0x12] = .ok (.staAbx 0x1234, []) ∧
  decode [0xBA] = .ok (.tsx, []) ∧
  decode [0x71, 0x80] = .ok (.adcIzy 0x80, []) ∧
  decode [0x2C, 0x02, 0x20] = .ok (.bitAbs 0x2002, []) ∧
  decode [0x6A] = .ok (.rorAcc, []) ∧
  decode [0xD6, 0x7F] = .ok (.decZpx 0x7F, []) ∧
  decode [0x6C, 0xFF, 0x02] = .ok (.jmpInd 0x02FF, []) ∧
  decode [0xF0, 0xFC] = .ok (.beq 0xFC, []) ∧
  decode [0x00, 0xEA] = .ok (.brk, [0xEA]) ∧
  decode [0xEB, 0x40] = .ok (.sbcImmEB 0x40, []) ∧
  decode [0xFB, 0xCD, 0xAB] = .ok (.isbAby 0xABCD, [])

/-! ### Loads, stores, transfers, the stack -/

/-- LDA, LDX, LDY and LAX: every form loads the byte read and sets Z and N from it (rules R151 to R153, R262). -/
def Obligations.LoadsLoad : Prop :=
  Reads ldaRows (fun m c => withZN { c with a := m } m) ∧
  Reads ldxRows (fun m c => withZN { c with x := m } m) ∧
  Reads ldyRows (fun m c => withZN { c with y := m } m) ∧
  Reads laxRows (fun m c => withZN { c with a := m, x := m } m)

/-- STA, STX, STY and SAX: every form writes its register and changes no flag (rules R154 to R156, R263). -/
def Obligations.StoresStore : Prop :=
  Writes staRows (fun c => c.a) ∧
  Writes stxRows (fun c => c.x) ∧
  Writes styRows (fun c => c.y) ∧
  Writes saxRows (fun c => c.a &&& c.x)

/-- The register transfers (rules R157 to R162). -/
def Obligations.TransfersTransfer : Prop :=
  Registers .tax 0xAA 2 (fun c => withZN { c with x := c.a } c.a) ∧
  Registers .tay 0xA8 2 (fun c => withZN { c with y := c.a } c.a) ∧
  Registers .txa 0x8A 2 (fun c => withZN { c with a := c.x } c.x) ∧
  Registers .tya 0x98 2 (fun c => withZN { c with a := c.y } c.y) ∧
  Registers .tsx 0xBA 2 (fun c => withZN { c with x := c.s } c.s) ∧
  Registers .txs 0x9A 2 (fun c => { c with s := c.x })

/-- PHA and PHP write one byte at `0x0100 + S`, then lower `S`; PHP pushes N V 1 1 D I Z C; no flag changes.  PLA and
PLP raise `S`, then read one byte at `0x0100 + S`; PLA sets Z and N from it, PLP the six flags from its bits 7, 6, 3,
2, 1 and 0, the stored `B` kept (rules R165 to R168). -/
def Obligations.PushesAndPulls : Prop :=
  (opcode .pha = 0x48 ∧ opcode .php = 0x08 ∧ opcode .pla = 0x68 ∧ opcode .plp = 0x28) ∧
  ∀ s : State,
    (exec .pha s =
      .next ((memWrite s (cell s.cpu.s) s.cpu.a).withCpu { s.cpu with s := s.cpu.s - 1, waitCycles := 2 })) ∧
    (∃ p : Byte,
      exec .php s =
        .next ((memWrite s (cell s.cpu.s) p).withCpu { s.cpu with s := s.cpu.s - 1, waitCycles := 2 }) ∧
      p.getLsbD 7 = s.cpu.n ∧ p.getLsbD 6 = s.cpu.v ∧ p.getLsbD 5 = true ∧ p.getLsbD 4 = true ∧
      p.getLsbD 3 = s.cpu.d ∧ p.getLsbD 2 = s.cpu.i ∧ p.getLsbD 1 = s.cpu.z ∧ p.getLsbD 0 = s.cpu.c) ∧
    (let a := cell (s.cpu.s + 1)
     let m := peek s a
     exec .pla s =
      .next ((readEffects s a).withCpu
        (withZN { s.cpu with s := s.cpu.s + 1, a := m, waitCycles := 3 } m)) ∧
     exec .plp s =
      .next ((readEffects s a).withCpu
        { s.cpu with
          s := s.cpu.s + 1
          n := m.getLsbD 7
          v := m.getLsbD 6
          d := m.getLsbD 3
          i := m.getLsbD 2
          z := m.getLsbD 1
          c := m.getLsbD 0
          waitCycles := 3 }))

/-! ### Arithmetic, logic, compare -/

/-- ADC: every form adds on integers as rule R182 says, whatever `D` is; and that sum is the nine-bit sum of
rule R182 with its formula for `V` (rules R182, R183). -/
def Obligations.AdcAdds : Prop :=
  Reads adcRows (fun m c => addInts c m) ∧
  ∀ (c : Cpu) (m : Byte),
    let sum9 : BitVec 9 := c.a.zeroExtend 9 + m.zeroExtend 9 + BitVec.ofNat 9 (carry c)
    let r : Byte := sum9.extractLsb' 0 8
    addInts c m =
      { c with
        v := ((c.a ^^^ r) &&& (m ^^^ r)).getLsbD 7
        c := sum9.getLsbD 8
        a := r
        z := decide (r = 0)
        n := r.getLsbD 7 }

/-- SBC, the second immediate opcode 0xEB included: every form subtracts on integers with borrow, and that is
the adder on the inverted operand (rules R184, R264). -/
def Obligations.SbcSubtracts : Prop :=
  Reads sbcRows (fun m c => subInts c m) ∧
  Reads sbcEbRows (fun m c => subInts c m) ∧
  ∀ (c : Cpu) (m : Byte), subInts c m = addInts c (m ^^^ 0xFF)

/-- AND, ORA and EOR combine into `A`; CMP, CPX, CPY and BIT write flags only (rules R185 to R192). -/
def Obligations.LogicAndCompare : Prop :=
  Reads andRows (fun m c => withZN { c with a := c.a &&& m } (c.a &&& m)) ∧
  Reads oraRows (fun m c => withZN { c with a := c.a ||| m } (c.a ||| m)) ∧
  Reads eorRows (fun m c => withZN { c with a := c.a ^^^ m } (c.a ^^^ m)) ∧
  Reads cmpRows (fun m c => compareInts c c.a m) ∧
  Reads cpxRows (fun m c => compareInts c c.x m) ∧
  Reads cpyRows (fun m c => compareInts c c.y m) ∧
  Reads bitRows (fun m c => { c with z := decide (c.a &&& m = 0), n := m.getLsbD 7, v := m.getLsbD 6 })

/-! ### Shifts, rotates, increments, decrements -/

/-- ASL, LSR, ROL and ROR on integers, memory and accumulator forms (rules R201 to R204). -/
def Obligations.ShiftsShift : Prop :=
  Modifies aslRows (fun m _ => BitVec.ofNat 8 (2 * m.toNat)) (fun m r c => shiftFlags c (m.getLsbD 7) r) ∧
  Modifies lsrRows (fun m _ => BitVec.ofNat 8 (m.toNat / 2)) (fun m r c => shiftFlags c (m.getLsbD 0) r) ∧
  Modifies rolRows (fun m c => BitVec.ofNat 8 (2 * m.toNat + carry c))
    (fun m r c => shiftFlags c (m.getLsbD 7) r) ∧
  Modifies rorRows (fun m c => BitVec.ofNat 8 (m.toNat / 2 + 128 * carry c))
    (fun m r c => shiftFlags c (m.getLsbD 0) r) ∧
  Registers .aslAcc 0x0A 2 (fun c =>
    let r := BitVec.ofNat 8 (2 * c.a.toNat)
    shiftFlags { c with a := r } (c.a.getLsbD 7) r) ∧
  Registers .lsrAcc 0x4A 2 (fun c =>
    let r := BitVec.ofNat 8 (c.a.toNat / 2)
    shiftFlags { c with a := r } (c.a.getLsbD 0) r) ∧
  Registers .rolAcc 0x2A 2 (fun c =>
    let r := BitVec.ofNat 8 (2 * c.a.toNat + carry c)
    shiftFlags { c with a := r } (c.a.getLsbD 7) r) ∧
  Registers .rorAcc 0x6A 2 (fun c =>
    let r := BitVec.ofNat 8 (c.a.toNat / 2 + 128 * carry c)
    shiftFlags { c with a := r } (c.a.getLsbD 0) r)

/-- INC, DEC, INX, INY, DEX, DEY modulo 256; `C` and `V` are untouched (rules R205 to R210). -/
def Obligations.IncrementsAndDecrements : Prop :=
  Modifies incRows (fun m _ => BitVec.ofNat 8 (m.toNat + 1)) (fun _ r c => withZN c r) ∧
  Modifies decRows (fun m _ => BitVec.ofNat 8 (m.toNat + 255)) (fun _ r c => withZN c r) ∧
  Registers .inx 0xE8 2 (fun c => withZN { c with x := c.x + 1 } (c.x + 1)) ∧
  Registers .iny 0xC8 2 (fun c => withZN { c with y := c.y + 1 } (c.y + 1)) ∧
  Registers .dex 0xCA 2 (fun c => withZN { c with x := c.x - 1 } (c.x - 1)) ∧
  Registers .dey 0x88 2 (fun c => withZN { c with y := c.y - 1 } (c.y - 1))

/-! ### Control flow -/

/-- JMP, both forms; the indirect form takes the target's high byte from the same page as its low byte
(rules R127, R221). -/
def Obligations.JumpsJump : Prop :=
  ∀ (w : Word) (s : State),
    (opcode (.jmpAbs w) = 0x4C ∧ opcode (.jmpInd w) = 0x6C) ∧
    exec (.jmpAbs w) s = .next (s.withCpu { s.cpu with pc := w, waitCycles := 2 }) ∧
    let next : Word := BitVec.ofNat 16 (w.toNat / 256 * 256 + (w.toNat + 1) % 256)
    let s1 := readEffects s w
    exec (.jmpInd w) s =
      .next ((readEffects s1 next).withCpu
        { s.cpu with
          pc := BitVec.ofNat 16 ((peek s1 next).toNat * 256 + (peek s w).toNat)
          waitCycles := 4 })

/-- JSR pushes the address of its last byte, high byte first; RTS pulls an address, low byte first, and adds 1
(rules R222, R223). -/
def Obligations.SubroutinesCallAndReturn : Prop :=
  ∀ (w : Word) (s : State),
    (opcode (.jsr w) = 0x20 ∧ opcode .rts = 0x60) ∧
    (let ret := s.cpu.pc.toNat + 65535
     exec (.jsr w) s =
      .next ((memWrite (memWrite s (cell s.cpu.s) (BitVec.ofNat 8 (ret / 256))) (cell (s.cpu.s - 1))
          (BitVec.ofNat 8 ret)).withCpu { s.cpu with s := s.cpu.s - 2, pc := w, waitCycles := 5 })) ∧
    (let s1 := readEffects s (cell (s.cpu.s + 1))
     let lo := (peek s (cell (s.cpu.s + 1))).toNat
     let hi := (peek s1 (cell (s.cpu.s + 2))).toNat
     exec .rts s =
      .next ((readEffects s1 (cell (s.cpu.s + 2))).withCpu
        { s.cpu with s := s.cpu.s + 2, pc := BitVec.ofNat 16 (hi * 256 + lo + 1), waitCycles := 5 }))

/-- RTS undoes JSR: from any later state with the same `S` and the same two stack bytes, in which the stack
page is still work RAM, it returns to the instruction after the JSR with `S` as before it, and nothing but the CPU
changes (rules R222, R223).  That the two stack reads, which the cartridge declines, leave it alone is the model's
choice, log entry 6. -/
def Obligations.RtsReturnsFromJsr : Prop :=
  ∀ (w : Word) (s t b : State),
    stackIsRam s → s.ram.wf Config.ramSize = true → exec (.jsr w) s = .next t →
    stackIsRam b → b.cpu.s = t.cpu.s →
    (∀ k : Byte, (k = 1 ∨ k = 2) → b.ram.read (cell (t.cpu.s + k)).toNat = t.ram.read (cell (t.cpu.s + k)).toNat) →
    exec .rts b =
      .next (b.withCpu { b.cpu with s := s.cpu.s, pc := s.cpu.pc, waitCycles := 5 })

/-- BRK: three pushes (the return address past the padding byte, high byte first, then the status with bits 5
and 4 set), `I` set, `PC` from the IRQ vector, low byte first; the stored `B` is kept.  RTI pulls the status, then
`PC` low, then `PC` high; bits 5 and 4 of the status are ignored (rules R226, R228). -/
def Obligations.BrkAndRti : Prop :=
  (opcode .brk = 0x00 ∧ opcode .rti = 0x40) ∧
  ∀ s : State,
    (let ret := s.cpu.pc.toNat + 1
     let t := memWrite
      (memWrite (memWrite s (cell s.cpu.s) (BitVec.ofNat 8 (ret / 256))) (cell (s.cpu.s - 1)) (BitVec.ofNat 8 ret))
      (cell (s.cpu.s - 2)) (s.cpu.pbyte true)
     let lo := (peek t 0xFFFE).toNat
     let hi := (peek (readEffects t 0xFFFE) 0xFFFF).toNat
     exec .brk s =
      .next ((readEffects (readEffects t 0xFFFE) 0xFFFF).withCpu
        { s.cpu with
          s := s.cpu.s - 3
          i := true
          pc := BitVec.ofNat 16 (hi * 256 + lo)
          waitCycles := 6 })) ∧
    (let a1 := cell (s.cpu.s + 1)
     let a2 := cell (s.cpu.s + 2)
     let a3 := cell (s.cpu.s + 3)
     let s1 := readEffects s a1
     let s2 := readEffects s1 a2
     let p := peek s a1
     exec .rti s =
      .next ((readEffects s2 a3).withCpu
        { s.cpu with
          s := s.cpu.s + 3
          n := p.getLsbD 7
          v := p.getLsbD 6
          d := p.getLsbD 3
          i := p.getLsbD 2
          z := p.getLsbD 1
          c := p.getLsbD 0
          pc := BitVec.ofNat 16 ((peek s2 a3).toNat * 256 + (peek s1 a2).toNat)
          waitCycles := 5 }))

/-- RTI undoes an interrupt entry: from any later state with the same `S` and the same three stack bytes, in
which the stack page is still work RAM, it returns to the interrupted `PC` with `S` and the six flags as before
the entry, and nothing but the CPU changes (rules R228, R303).  That the three stack reads, which the cartridge
declines, leave it alone is the model's choice, log entry 6. -/
def Obligations.RtiReturnsFromInterrupt : Prop :=
  ∀ (vector : Word) (s b : State),
    stackIsRam s → s.ram.wf Config.ramSize = true →
    let t := interruptEntry s vector
    stackIsRam b → b.cpu.s = t.cpu.s →
    (∀ k : Byte, (k = 1 ∨ k = 2 ∨ k = 3) →
      b.ram.read (cell (t.cpu.s + k)).toNat = t.ram.read (cell (t.cpu.s + k)).toNat) →
    exec .rti b =
      .next (b.withCpu
        { b.cpu with
          s := s.cpu.s
          pc := s.cpu.pc
          n := s.cpu.n
          v := s.cpu.v
          d := s.cpu.d
          i := s.cpu.i
          z := s.cpu.z
          c := s.cpu.c
          waitCycles := 5 })

/-- Every branch: taken, `PC` moves by the signed displacement and the count is 3, or 4 when the target lies on
another page than the next instruction; not taken, only the count of 2 (rules R230, R232 to R240). -/
def Obligations.BranchesBranch : Prop :=
  ∀ p ∈ branches, ∀ (d : Byte) (s : State),
    opcode (p.1 d) = p.2.1 ∧
    let target : Word := BitVec.ofInt 16 ((s.cpu.pc.toNat : Int) + d.toInt)
    exec (p.1 d) s =
      .next (s.withCpu
        (if p.2.2 s.cpu then
          { s.cpu with
            pc := target
            waitCycles := if target.toNat / 256 = s.cpu.pc.toNat / 256 then 2 else 3 }
        else { s.cpu with waitCycles := 1 }))

/-- The flag instructions and NOP (rules R241 to R248). -/
def Obligations.FlagInstructionsSetFlags : Prop :=
  Registers .clc 0x18 2 (fun c => { c with c := false }) ∧
  Registers .sec 0x38 2 (fun c => { c with c := true }) ∧
  Registers .cli 0x58 2 (fun c => { c with i := false }) ∧
  Registers .sei 0x78 2 (fun c => { c with i := true }) ∧
  Registers .clv 0xB8 2 (fun c => { c with v := false }) ∧
  Registers .cld 0xD8 2 (fun c => { c with d := false }) ∧
  Registers .sed 0xF8 2 (fun c => { c with d := true }) ∧
  Registers .nop 0xEA 2 (fun c => c)

/-! ### Unofficial opcodes -/

/-- The 23 unofficial NOPs: the implied ones change nothing; the others read their operand and discard it
(rule R261). -/
def Obligations.UnofficialNopsReadAndDiscard : Prop :=
  Registers .nop1A 0x1A 2 (fun c => c) ∧
  Registers .nop3A 0x3A 2 (fun c => c) ∧
  Registers .nop5A 0x5A 2 (fun c => c) ∧
  Registers .nop7A 0x7A 2 (fun c => c) ∧
  Registers .nopDA 0xDA 2 (fun c => c) ∧
  Registers .nopFA 0xFA 2 (fun c => c) ∧
  Reads nopRows (fun _ c => c)

/-- SLO, RLA and SRE: the shift or rotate is written back, then combined with `A`; Z and N are those of `A`
(rules R266 to R268). -/
def Obligations.SloRlaSreShiftAndCombine : Prop :=
  Modifies sloRows (fun m _ => BitVec.ofNat 8 (2 * m.toNat))
    (fun m r c => shiftFlags { c with a := c.a ||| r } (m.getLsbD 7) (c.a ||| r)) ∧
  Modifies rlaRows (fun m c => BitVec.ofNat 8 (2 * m.toNat + carry c))
    (fun m r c => shiftFlags { c with a := c.a &&& r } (m.getLsbD 7) (c.a &&& r)) ∧
  Modifies sreRows (fun m _ => BitVec.ofNat 8 (m.toNat / 2))
    (fun m r c => shiftFlags { c with a := c.a ^^^ r } (m.getLsbD 0) (c.a ^^^ r))

/-- RRA, DCP and ISB: the rotated, decremented or incremented byte is written back, then added with the carry
just rotated out, compared with `A`, or subtracted with the old carry (rules R269 to R271). -/
def Obligations.RraDcpIsbModifyAndCompute : Prop :=
  Modifies rraRows (fun m c => BitVec.ofNat 8 (m.toNat / 2 + 128 * carry c))
    (fun m r c => addInts { c with c := m.getLsbD 0 } r) ∧
  Modifies dcpRows (fun m _ => BitVec.ofNat 8 (m.toNat + 255)) (fun _ r c => compareInts c c.a r) ∧
  Modifies isbRows (fun m _ => BitVec.ofNat 8 (m.toNat + 1)) (fun _ r c => subInts c r)

/-! ### Effective addresses and frames -/

/-- The effective address of every memory mode, and whether it crosses a page, on integers (the modes of
spec/30_encoding.md section 3); and the data read of a resolved operand: the immediate byte itself, and in every other
mode one bus read at the effective address, after the pointer's reads (rules R84, R85, R122).  That an immediate byte
is read by the fetch and carried by the instruction is log entry 9. -/
def Obligations.EffectiveAddresses : Prop :=
  ∀ (d : Byte) (w : Word) (s : State),
    let x := s.cpu.x.toNat
    let y := s.cpu.y.toNat
    let zero : Nat → Word := fun n => BitVec.ofNat 16 (n % 256)
    let plus : Nat → Nat → State → Resolved := fun base idx t =>
      ⟨BitVec.ofNat 16 (base + idx), decide ((base + idx) / 256 ≠ base / 256), t⟩
    resolve (.imm d) s = ⟨BitVec.ofNat 16 (s.cpu.pc.toNat + 65535), false, s⟩ ∧
    resolve (.zp d) s = ⟨zero d.toNat, false, s⟩ ∧
    resolve (.zpx d) s = ⟨zero (d.toNat + x), false, s⟩ ∧
    resolve (.zpy d) s = ⟨zero (d.toNat + y), false, s⟩ ∧
    resolve (.abs w) s = ⟨w, false, s⟩ ∧
    resolve (.abx w) s = plus w.toNat x s ∧
    resolve (.aby w) s = plus w.toNat y s ∧
    (let p := d.toNat + x
     let s1 := readEffects s (zero p)
     resolve (.izx d) s =
      ⟨BitVec.ofNat 16 ((peek s1 (zero (p + 1))).toNat * 256 + (peek s (zero p)).toNat), false,
        readEffects s1 (zero (p + 1))⟩) ∧
    (let s1 := readEffects s (zero d.toNat)
     resolve (.izy d) s =
      plus ((peek s1 (zero (d.toNat + 1))).toNat * 256 + (peek s (zero d.toNat)).toNat) y
        (readEffects s1 (zero (d.toNat + 1)))) ∧
    ∀ r : Resolved,
      operandRead (.imm d) r = (d, r.st) ∧
      ∀ o ∈ [Operand.zp d, .zpx d, .zpy d, .abs w, .abx w, .aby w, .izx d, .izy d],
        operandRead o r = (peek r.st r.ea, readEffects r.st r.ea)

/-- What the forms that store nothing leave alone: every memory of the machine, the DMA unit, both counters,
the configuration, the stored break flag and the interrupt latches, from every state; and on a machine with a
board, the board, so that every memory address reads as before. -/
def Obligations.NonStoringFormsKeepMemory : Prop :=
  ∀ (d : Byte) (w : Word) (i : Instr),
    i ∈ (readingRows d w).map (fun r => r.instr) ++ registerForms d w →
    ∀ s t : State, exec i s = .next t →
      t.ram = s.ram ∧ t.ppu.oam = s.ppu.oam ∧ t.ppu.nametable = s.ppu.nametable ∧
      t.ppu.palette = s.ppu.palette ∧ t.dma = s.dma ∧ t.master = s.master ∧ t.cyc = s.cyc ∧ t.cfg = s.cfg ∧
      t.cpu.b = s.cpu.b ∧ t.cpu.nmiLatch = s.cpu.nmiLatch ∧ t.cpu.irqLatch = s.cpu.irqLatch ∧
      ∀ b, s.cart = .board b → t.cart = .board b ∧ memoryKept b s t (fun _ => False)

/-- What the forms that store one byte leave alone on a machine with a board: every memory address that is not
the effective address, nor a mirror of it, reads as before (rules R72, R74, R76, R84, R85).  When the effective address
is work RAM the PPU, the APU, the DMA unit and the controllers are as the operand's reads leave them.  The premises are
the canonical form of the memories, which every reachable state has (obligation StepKeepsInvariant).  The effective
address is the model's `resolve`, which obligation EffectiveAddresses gives on integers. -/
def Obligations.StoringFormsKeepOtherMemory : Prop :=
  ∀ (d : Byte) (w : Word), ∀ r ∈ storingRows d w, ∀ (s t : State) (b : Board),
    s.cart = .board b → s.cart.wf = true → s.ram.wf Config.ramSize = true → exec r.instr s = .next t →
    memoryKept b s t (fun a => sameByte b a (resolve r.operand s).ea) ∧
    ((resolve r.operand s).ea.toNat < 0x2000 →
      t.ppu = (resolve r.operand s).st.ppu ∧ t.apu = (resolve r.operand s).st.apu ∧
      t.dma = s.dma ∧ t.pad0 = (resolve r.operand s).st.pad0 ∧ t.pad1 = (resolve r.operand s).st.pad1) ∧
    t.master = s.master ∧ t.cyc = s.cyc ∧ t.cfg = s.cfg ∧ t.cpu.s = s.cpu.s ∧ t.cpu.pc = s.cpu.pc

/-- What the pushing instructions leave alone on a machine with a board that leaves the stack page to work RAM:
every memory address but the mirrors of the bytes pushed, downwards from `0x0100 + S`, reads as before; `S` falls
by the number of bytes pushed; nothing else but the CPU changes. -/
def Obligations.PushingFormsKeepOtherMemory : Prop :=
  ∀ (w : Word), ∀ p ∈ pushingForms w, ∀ (s t : State) (b : Board),
    s.cart = .board b → stackIsRam s → s.ram.wf Config.ramSize = true → exec p.1 s = .next t →
    memoryKept b s t (fun a => ∃ k < p.2, sameByte b a (cell (s.cpu.s - BitVec.ofNat 8 k))) ∧
    t.cpu.s = s.cpu.s - BitVec.ofNat 8 p.2 ∧
    t = { s with cpu := t.cpu, ram := t.ram }

/-- Whatever the instruction, executing it answers a next state and leaves the stored break flag, the two
interrupt latches, both counters, the configuration and the outputs alone, with a countdown of at most 7. -/
def Obligations.EveryInstructionCompletes : Prop :=
  ∀ (i : Instr) (s : State), ∃ t, exec i s = .next t ∧
    t.cpu.b = s.cpu.b ∧ t.cpu.nmiLatch = s.cpu.nmiLatch ∧ t.cpu.irqLatch = s.cpu.irqLatch ∧
    t.cpu.waitCycles ≤ 7 ∧ t.master = s.master ∧ t.cyc = s.cyc ∧ t.cfg = s.cfg ∧
    t.pixel = s.pixel ∧ t.sound = s.sound

/-! ### The CPU tick -/

/-- Interrupt entry: three pushes (`PC` high, `PC` low, the status with the stored `B` in bit 4), `B` cleared,
`I` set, `PC` from the vector, low byte first, six wait cycles; no other register changes (rule R303). -/
def Obligations.InterruptEntrySequence : Prop :=
  ∀ (s : State) (vector : Word),
    let pc := s.cpu.pc.toNat
    let t := memWrite
      (memWrite (memWrite s (cell s.cpu.s) (BitVec.ofNat 8 (pc / 256))) (cell (s.cpu.s - 1)) (BitVec.ofNat 8 pc))
      (cell (s.cpu.s - 2)) (s.cpu.pbyte s.cpu.b)
    let next := vector + 1
    interruptEntry s vector =
      (readEffects (readEffects t vector) next).withCpu
        { s.cpu with
          s := s.cpu.s - 3
          b := false
          i := true
          pc := BitVec.ofNat 16 ((peek (readEffects t vector) next).toNat * 256 + (peek t vector).toNat)
          waitCycles := 6 }

/-- The priority at a CPU tick: the countdown, then NMI, then IRQ if `I` is 0, then fetch.  With both latches set,
NMI entry runs through 0xFFFA and leaves the IRQ latched with `I` set; IRQ entry goes through 0xFFFE and tells the
cartridge (rules R300, R308). -/
def Obligations.CpuTickPriority : Prop :=
  ∀ s : State,
    (0 < s.cpu.waitCycles →
      cpuTick s = .next (s.withCpu { s.cpu with waitCycles := s.cpu.waitCycles - 1 })) ∧
    (s.cpu.waitCycles = 0 → s.cpu.nmiLatch = true →
      ∃ t, cpuTick s = .next t ∧ t = (interruptEntry s 0xFFFA).withCpu t.cpu ∧
        t.cpu = { (interruptEntry s 0xFFFA).cpu with nmiLatch := false } ∧
        t.cpu.irqLatch = s.cpu.irqLatch ∧ t.cpu.i = true ∧ t.cpu.waitCycles = 6) ∧
    (s.cpu.waitCycles = 0 → s.cpu.nmiLatch = false → s.cpu.irqLatch = true → s.cpu.i = false →
      ∃ t, cpuTick s = .next t ∧ t.cart = (interruptEntry s 0xFFFE).cart.irqAck ∧
        t.cpu = { (interruptEntry s 0xFFFE).cpu with irqLatch := false } ∧
        t.cpu.i = true ∧ t.cpu.waitCycles = 6 ∧
        t = { interruptEntry s 0xFFFE with cpu := t.cpu, cart := t.cart }) ∧
    (readyToFetch s → cpuTick s = fetchExecute s)

/-- An instruction or interrupt entry with `n` wait cycles left spends exactly `n` CPU ticks in which nothing but
the countdown changes, whatever is latched meanwhile (rule R302's boundary is reached after them). -/
def Obligations.CountdownTicksChangeNothing : Prop :=
  ∀ (s : State) (k : Nat), k ≤ s.cpu.waitCycles →
    cpuTicks k s = .next (s.withCpu { s.cpu with waitCycles := s.cpu.waitCycles - k })

/-- At an instruction boundary with nothing to service, the CPU tick faults exactly when the byte at `PC` is one of
the 29 undefined ones or an unofficial one left out of `UnofficialSet`; the fault carries the byte, its address and
the state at the start of the tick (rule R301). -/
def Obligations.UnknownOpcodeFaults : Prop :=
  ∀ s : State, readyToFetch s →
    let op := peek s s.cpu.pc
    ((op ∈ undefinedBytes ∨ (op ∈ unofficialBytes ∧ op ∉ s.cfg.unofficialSet)) →
      cpuTick s = .fault (.unknownOpcode op s.cpu.pc s)) ∧
    (op ∉ undefinedBytes → (op ∈ unofficialBytes → op ∈ s.cfg.unofficialSet) → ∃ t, cpuTick s = .next t)

/-- The machine never refuses, and faults only by an undefined or left-out opcode byte fetched on a CPU-cadence
tick at an instruction boundary, with no transfer active. -/
def Obligations.OnlyUnknownOpcodeStops : Prop :=
  ∀ s : State,
    (∀ r, step s ≠ .refused r) ∧
    ∀ f, step s = .fault f →
      ∃ t : State, t = ppuPart s ∧ f = .unknownOpcode (peek t t.cpu.pc) t.cpu.pc t ∧ s.master % 3 = 0 ∧
        t.dma.transfer = false ∧ readyToFetch t ∧
        (peek t t.cpu.pc ∈ undefinedBytes ∨
          (peek t t.cpu.pc ∈ unofficialBytes ∧ peek t t.cpu.pc ∉ t.cfg.unofficialSet))

/-- A step runs the decoded instruction: on a CPU-cadence tick, at a boundary with nothing to service and no
transfer active, with the encoding of an admitted instruction at `PC` at addresses whose reads have no side effect,
step is the PPU tick, then `exec` of that instruction with `PC` moved past it, then `cyc`, the APU step, the poll and
the counter. -/
def Obligations.StepRunsDecodedInstruction : Prop :=
  ∀ (s : State) (i : Instr),
    let p := ppuPart s
    s.master % 3 = 0 → p.dma.transfer = false → readyToFetch p → i.wellFormed p.cfg = true →
    (∀ k, (h : k < (encode i).length) →
      peek p (p.cpu.pc + BitVec.ofNat 16 k) = (encode i)[k] ∧
      readEffects p (p.cpu.pc + BitVec.ofNat 16 k) = p) →
    ∃ t, exec i (p.withCpu { p.cpu with pc := p.cpu.pc + BitVec.ofNat 16 (encode i).length }) = .next t ∧
      step s = .next (finishTick { t with cyc := t.cyc + 1 })

/-! ### The bus -/

/-- The CPU bus.  A read returns the byte observed before its side effects, which run once (rule R71).  An access that
the cartridge claims is the cartridge's alone: its byte and its read effects, or the cartridge the write leaves, with
nothing else changed (rule R74).  An address that neither the cartridge nor the console bus claims, a write-only PPU
port and the write-only addresses up to 0x4014 read 0 without side effect (rules R73, R77, R78); a write that nothing
claims is ignored (rule R72).  Which side effects run on a claimed read, and that a cartridge which declines the access
is itself unchanged, is the model's choice, log entry 6. -/
def Obligations.BusReadsAndUnclaimedAddresses : Prop :=
  ∀ (s : State) (a : Word),
    memRead s a = ((match tryRead s a with | some v => v | none => 0), readEffects s a) ∧
    (s.cart.cpuTryRead a = none →
      ((0x4000 ≤ a.toNat ∧ a.toNat ≤ 0x4014) ∨ 0x4018 ≤ a.toNat ∨
        (0x2000 ≤ a.toNat ∧ a.toNat < 0x4000 ∧ a.toNat % 8 ∉ [2, 4, 7])) → memRead s a = (0, s)) ∧
    ((∀ v, s.cart.cpuWrite a v = none) → 0x4018 ≤ a.toNat → ∀ v, memWrite s a v = s) ∧
    (∀ v, s.cart.cpuTryRead a = some v → memRead s a = (v, { s with cart := s.cart.readEffects a })) ∧
    (∀ v c, s.cart.cpuWrite a v = some c → memWrite s a v = { s with cart := c })

/-- The addresses whose read changes something, complete: from every state with a cartridge that declines the
address, a read changes the machine only at ports 2 and 7, 0x4015, 0x4016 and 0x4017, and only as listed, the list of
rule R83 for the console bus.  Rule R83 says that the cartridge may add more; that it adds nothing on a read it
declines is the model's choice, log entry 6. -/
def Obligations.ReadSideEffects : Prop :=
  ∀ (s : State) (a : Word), s.cart.cpuTryRead a = none →
    (a.toNat < 0x2000 ∨ 0x4017 < a.toNat ∨ (0x4000 ≤ a.toNat ∧ a.toNat < 0x4015) ∨
      (0x2000 ≤ a.toNat ∧ a.toNat < 0x4000 ∧ a.toNat % 8 ≠ 2 ∧ a.toNat % 8 ≠ 7) → readEffects s a = s) ∧
    (0x2000 ≤ a.toNat → a.toNat < 0x4000 → a.toNat % 8 = 2 → readEffects s a =
      { s with ppu := { s.ppu with vblank := false, addrLatch := false, statusReadThisTick := true } }) ∧
    (0x2000 ≤ a.toNat → a.toNat < 0x4000 → a.toNat % 8 = 7 →
      readEffects s a =
        { s with
          ppu :=
            { s.ppu with
              dataBuffer := ppuRead s (BitVec.ofNat 14 s.ppu.vramAddr.toNat)
              vramAddr := s.ppu.vramAddr + if s.ppu.ctrl.getLsbD 2 then 32 else 1 } }) ∧
    (a.toNat = 0x4015 → readEffects s a = { s with apu := { s.apu with frameIrq := false } }) ∧
    (a.toNat = 0x4016 → readEffects s a =
      { s with pad0 := { s.pad0 with shift := BitVec.ofNat 8 (2 * s.pad0.shift.toNat) } }) ∧
    (a.toNat = 0x4017 → readEffects s a =
      { s with pad1 := { s.pad1 with shift := BitVec.ofNat 8 (2 * s.pad1.shift.toNat) } })

/-- Work RAM: a byte written at any address below 0x2000 is read back at every mirror, and no other work RAM
address changes; neither access touches anything but work RAM (rule R76).  That a read which the cartridge declines
leaves the cartridge alone too is the model's choice, log entry 6. -/
def Obligations.WorkRamMirrors : Prop :=
  ∀ (s : State) (a b : Word) (v : Byte),
    s.ram.wf Config.ramSize = true → a.toNat < 0x2000 → b.toNat < 0x2000 → s.cart.cpuWrite a v = none →
    s.cart.cpuTryRead b = none →
    memWrite s a v = { s with ram := (memWrite s a v).ram } ∧
    memRead (memWrite s a v) b =
      (if b.toNat % 2048 = a.toNat % 2048 then v else peek s b, memWrite s a v)

/-! ### DMA, controllers, the master tick -/

/-- The length of an OAM DMA transfer: from the state a write to 0x4014 leaves, 512 CPU-cadence ticks when the
first falls on an even `cyc`, 513 when it falls on an odd one, whatever the source page holds; during all of them
the CPU is frozen (rules R344, R346, R347).  That the reads fall on even `cyc` is the spec's own decision D22. -/
def Obligations.DmaTransferLength : Prop :=
  ∀ s : State, s.dma.transfer = true → s.dma.dummy = true → s.dma.addr = 0 →
    let n := 512 + s.cyc % 2
    (∀ k < n, (dmaTicks k s).dma.transfer = true) ∧
    (dmaTicks n s).dma.transfer = false ∧ (dmaTicks n s).dma.dummy = true ∧ (dmaTicks n s).dma.addr = 0 ∧
    (dmaTicks n s).cyc = s.cyc + n ∧
    ∀ k ≤ n, (dmaTicks k s).cpu = s.cpu

/-- A whole transfer from a page of work RAM copies its 256 bytes to OAM, byte `k` of the page to OAM byte `k`, and
changes nothing else but the DMA unit and `cyc` (rule R346; the page is one that the cartridge declines).  That the 256
reads which the cartridge declines leave it alone is the model's choice, log entry 6. -/
def Obligations.DmaCopiesPage : Prop :=
  ∀ s : State, s.dma.transfer = true → s.dma.dummy = true → s.dma.addr = 0 → s.dma.page.toNat < 0x20 →
    s.ppu.oam.wf Config.oamSize = true →
    (∀ k : Byte, s.cart.cpuTryRead (s.dma.page ++ k) = none) →
    let t := dmaTicks (512 + s.cyc % 2) s
    (∀ k < 256, t.ppu.oam.read k = s.ram.read ((s.dma.page.toNat * 256 + k) % 2048)) ∧
    t = { s with ppu := { s.ppu with oam := t.ppu.oam }, dma := t.dma, cyc := t.cyc }

/-- A write to 0x4014 starts a transfer from the page written; a write to 0x4016 of any value latches both
controllers; the values of later reads of one controller are its buttons, A first, then zeros, however often the
other has been read since (rules R345, R350, R351).  The latch and the bit order are the spec's decision D27; that a
cartridge which declines the two addresses is unchanged by their reads is log entry 6. -/
def Obligations.DmaTriggerAndControllers : Prop :=
  ∀ (s : State) (v : Byte),
    (s.cart.cpuWrite 0x4014 v = none →
      memWrite s 0x4014 v = { s with dma := { s.dma with page := v, addr := 0, transfer := true } }) ∧
    (s.cart.cpuWrite 0x4016 v = none → s.cart.cpuTryRead 0x4016 = none → s.cart.cpuTryRead 0x4017 = none →
      memWrite s 0x4016 v =
        { s with
          pad0 := { s.pad0 with shift := s.pad0.buttons }
          pad1 := { s.pad1 with shift := s.pad1.buttons } } ∧
      ∀ n k,
        readsOf 0x4016 n (afterReads 0x4017 k (memWrite s 0x4016 v)) =
          (List.range n).map (fun j => if j < 8 ∧ s.pad0.buttons.getLsbD (7 - j) = true then 1 else 0) ∧
        readsOf 0x4017 n (afterReads 0x4016 k (memWrite s 0x4016 v)) =
          (List.range n).map (fun j => if j < 8 ∧ s.pad1.buttons.getLsbD (7 - j) = true then 1 else 0))

/-- One master tick, in order: a PPU tick on every `PPU_DIV`-th; on every third a DMA step if a transfer is active,
else a CPU tick, and `cyc` one higher; on every sixth an APU step; the poll of the two IRQ sources; `master` one
higher (rule R341).  The phase of the PPU ticks for `PPU_DIV` = 3, which rule R341 does not give, is log entry 17; the
output fields `pixel` and `sound` are log entry 11. -/
def Obligations.MasterTickOrder : Prop :=
  ∀ s t : State, step s = .next t →
    ∃ u v : State,
      u = (if s.master % s.cfg.ppuDiv.toNat = 0 then ppuTick s else { s with pixel := none }) ∧
      (s.master % 3 ≠ 0 → v = u) ∧
      (s.master % 3 = 0 → u.dma.transfer = true → v = { dmaStep u with cyc := s.cyc + 1 } ∧ v.cpu = u.cpu) ∧
      (s.master % 3 = 0 → u.dma.transfer = false →
        ∃ w, cpuTick u = .next w ∧ v = { w with cyc := s.cyc + 1 }) ∧
      (let x := if s.master % 6 = 0 then { v with apu := v.apu.step, sound := some v.apu.step.sample } else v
       t = { x with
        cpu :=
          { x.cpu with
            irqLatch := x.cpu.irqLatch || x.cart.irqPending || (x.cfg.frameIrqWired && x.apu.frameIrq) }
        master := s.master + 1 })

/-! ### The PPU -/

/-- Writes to ports 0, 1, 3, 4, 5 and 6, at every mirror: the registers change bit by bit as rules R381 to R386 say,
and nothing else changes; a write to port 2 changes nothing; a read of port 4 returns `oam[oam_addr]` and changes
nothing.  That the cartridge which declines that read is unchanged is the model's choice, log entry 6. -/
def Obligations.PpuPortWrites : Prop :=
  ∀ (s : State) (a : Word) (v : Byte),
    0x2000 ≤ a.toNat → a.toNat < 0x4000 → s.cart.cpuWrite a v = none →
    let p := s.ppu
    let t := memWrite s a v
    (a.toNat % 8 = 0 → ∃ tr : Scroll, t = { s with ppu := { p with ctrl := v, tramAddr := tr } } ∧
      ∀ k < 15, tr.getLsbD k =
        if k = 10 then v.getLsbD 0 else if k = 11 then v.getLsbD 1 else p.tramAddr.getLsbD k) ∧
    (a.toNat % 8 = 1 → t = { s with ppu := { p with mask := v } }) ∧
    (a.toNat % 8 = 2 → t = s) ∧
    (a.toNat % 8 = 3 → t = { s with ppu := { p with oamAddr := v } }) ∧
    (a.toNat % 8 = 4 →
      t = { s with ppu := { p with oam := p.oam.write p.oamAddr.toNat v, oamAddr := p.oamAddr + 1 } }) ∧
    (a.toNat % 8 = 4 → s.cart.cpuTryRead a = none → memRead s a = (p.oam.read p.oamAddr.toNat, s)) ∧
    (a.toNat % 8 = 5 → ∃ (tr : Scroll) (fx : BitVec 3),
      t = { s with ppu := { p with tramAddr := tr, fineX := fx, addrLatch := !p.addrLatch } } ∧
      (p.addrLatch = false → fx = BitVec.ofNat 3 v.toNat ∧
        ∀ k < 15, tr.getLsbD k = if k < 5 then v.getLsbD (k + 3) else p.tramAddr.getLsbD k) ∧
      (p.addrLatch = true → fx = p.fineX ∧
        ∀ k < 15, tr.getLsbD k =
          if 12 ≤ k then v.getLsbD (k - 12)
          else if 5 ≤ k ∧ k < 10 then v.getLsbD (k - 2) else p.tramAddr.getLsbD k)) ∧
    (a.toNat % 8 = 6 → ∃ tr : Scroll,
      (p.addrLatch = false → t = { s with ppu := { p with tramAddr := tr, addrLatch := true } } ∧
        ∀ k < 15, tr.getLsbD k =
          if k = 14 then false else if 8 ≤ k then v.getLsbD (k - 8) else p.tramAddr.getLsbD k) ∧
      (p.addrLatch = true →
        t = { s with ppu := { p with tramAddr := tr, vramAddr := tr, addrLatch := false } } ∧
        ∀ k < 15, tr.getLsbD k = if k < 8 then v.getLsbD k else p.tramAddr.getLsbD k))

/-- The status port: the byte read shows the three flags as they were before the read, with the low five bits of
the data buffer; the read clears `vblank` and the write toggle and marks the tick, and nothing else; a second read
shows `vblank` clear and the rest as before; a write changes nothing (rule R388).  That the cartridge which declines
the read is unchanged is the model's choice, log entry 6. -/
def Obligations.StatusPortRead : Prop :=
  ∀ (s : State) (a : Word), 0x2000 ≤ a.toNat → a.toNat < 0x4000 → a.toNat % 8 = 2 →
    s.cart.cpuTryRead a = none →
    let first := memRead s a
    let second := memRead first.2 a
    first.1.getLsbD 7 = s.ppu.vblank ∧ first.1.getLsbD 6 = s.ppu.spr0Hit ∧
    first.1.getLsbD 5 = s.ppu.sprOverflow ∧ (∀ k < 5, first.1.getLsbD k = s.ppu.dataBuffer.getLsbD k) ∧
    first.2 = { s with ppu := { s.ppu with vblank := false, addrLatch := false, statusReadThisTick := true } } ∧
    second.1.getLsbD 7 = false ∧ (∀ k < 7, second.1.getLsbD k = first.1.getLsbD k) ∧ second.2 = first.2 ∧
    ∀ v, s.cart.cpuWrite a v = none → memWrite s a v = s

/-- The data port: below the palette the first read returns the stale buffer and the second the byte at the first
address; in the palette the first read returns the byte at once; each read and each write moves `vram_addr` by 1 or
32 modulo 32768; a write goes to the PPU bus (rules R387, R389).  That the cartridge which declines the CPU read is
unchanged is the model's choice, log entry 6. -/
def Obligations.DataPortAccess : Prop :=
  ∀ (s : State) (a : Word) (v : Byte), 0x2000 ≤ a.toNat → a.toNat < 0x4000 → a.toNat % 8 = 7 →
    s.cart.cpuTryRead a = none → s.cart.cpuWrite a v = none →
    let inc := if s.ppu.ctrl.getLsbD 2 then 32 else 1
    let at14 : PpuAddr := BitVec.ofNat 14 s.ppu.vramAddr.toNat
    let moved : Scroll := BitVec.ofNat 15 (s.ppu.vramAddr.toNat + inc)
    let first := memRead s a
    first.1 = (if 0x3F00 ≤ at14.toNat then ppuRead s at14 else s.ppu.dataBuffer) ∧
    first.2 = { s with ppu := { s.ppu with dataBuffer := ppuRead s at14, vramAddr := moved } } ∧
    (moved.toNat % 0x4000 < 0x3F00 → (memRead first.2 a).1 = ppuRead s at14) ∧
    memWrite s a v =
      { ppuWrite s at14 v with ppu := { (ppuWrite s at14 v).ppu with vramAddr := moved } }

/-- The PPU bus.  An access that the cartridge claims is the cartridge's alone; of those it declines, a pattern-table
read gives 0 and a pattern-table write changes nothing (rules R390, R391; for a write also R74 and log entry 6), and a
write from 0x2000 up changes nametable and palette memory only.  Nametable and palette memory: a byte written at a PPU
address from 0x2000 up is read back at exactly the addresses that the mirroring mode and the palette aliases map to
the same byte; every other address from 0x2000 up reads as before (rules R392 to R394). -/
def Obligations.PpuMemoryReadsBack : Prop :=
  ∀ (s : State) (a b : PpuAddr) (v : Byte),
    let t := ppuWrite s a v
    (∀ x, s.cart.ppuTryRead a = some x → ppuRead s a = x) ∧
    (∀ c, s.cart.ppuWrite a v = some c → t = { s with cart := c }) ∧
    (a.toNat < 0x2000 → s.cart.ppuTryRead a = none → ppuRead s a = 0) ∧
    (a.toNat < 0x2000 → s.cart.ppuWrite a v = none → t = s) ∧
    (s.cart.ppuWrite a v = none →
      t = { s with ppu := { s.ppu with nametable := t.ppu.nametable, palette := t.ppu.palette } }) ∧
    (0x2000 ≤ a.toNat → 0x2000 ≤ b.toNat →
      s.ppu.nametable.wf Config.nametableSize = true → s.ppu.palette.wf Config.paletteSize = true →
      s.cart.ppuWrite a v = none → s.cart.ppuTryRead b = none →
      let cellOf := ppuCell s.cart.mirroring s.cfg.singleScreenTable.toNat
      ppuRead t b = if cellOf b = cellOf a then v else ppuRead s b)

/-- What a PPU tick does around the picture.  Only a tick at (241, 1) requests an NMI or sets `vblank`: there, unless
the status port was read since the tick before, `vblank` becomes 1 and the NMI latch is set if `ctrl` bit 7 is 1.
Everywhere else the NMI latch is unchanged, and `vblank` is unchanged but at (-1, 1), where it becomes 0 (rules R402,
R404).  The cartridge is told of the scanline by exactly the ticks that find cycle 0, and changed by no other (rules
R306, R400).  The cursor moves on by one dot, from the dot acted on (rules R400, R401).  Work RAM, OAM, nametable and
palette RAM, the registers that the ports write, the APU, the DMA unit, the controllers, both counters and the
configuration are unchanged. -/
def Obligations.VblankAndNmiRequest : Prop :=
  ∀ s : State,
    let t := ppuTick s
    (s.ppu.scanline = 241 → s.ppu.cycle = 1 → s.ppu.statusReadThisTick = false →
      t.ppu.vblank = true ∧ t.cpu = { s.cpu with nmiLatch := s.cpu.nmiLatch || s.ppu.ctrl.getLsbD 7 }) ∧
    (s.ppu.scanline = 241 → s.ppu.cycle = 1 → s.ppu.statusReadThisTick = true →
      t.ppu.vblank = s.ppu.vblank ∧ t.cpu = s.cpu) ∧
    (¬ (s.ppu.scanline = 241 ∧ s.ppu.cycle = 1) → t.cpu = s.cpu ∧
      t.ppu.vblank = (s.ppu.vblank && !decide (s.ppu.scanline = -1 ∧ s.ppu.cycle = 1))) ∧
    t.ppu.statusReadLastTick = s.ppu.statusReadThisTick ∧ t.ppu.statusReadThisTick = false ∧
    t.cart = (if s.ppu.cycle = 0 then s.cart.onScanline s.ppu.scanline (layersOn s.ppu) else s.cart) ∧
    (let wraps := decide (340 ≤ dot s.ppu)
     let last := decide (260 ≤ s.ppu.scanline)
     t.ppu.cycle = (if wraps then 0 else dot s.ppu + 1) ∧
     t.ppu.scanline = (if wraps then (if last then -1 else s.ppu.scanline + 1) else s.ppu.scanline) ∧
     t.ppu.oddFrame = (s.ppu.oddFrame != (wraps && last))) ∧
    t = { s with
      cpu := t.cpu
      cart := t.cart
      pixel := t.pixel
      ppu :=
        { t.ppu with
          ctrl := s.ppu.ctrl
          mask := s.ppu.mask
          tramAddr := s.ppu.tramAddr
          fineX := s.ppu.fineX
          addrLatch := s.ppu.addrLatch
          dataBuffer := s.ppu.dataBuffer
          oamAddr := s.ppu.oamAddr
          oam := s.ppu.oam
          nametable := s.ppu.nametable
          palette := s.ppu.palette } }

/-- The frame: from the first dot of the pre-render line the cursor is there again for the first time after 89342 PPU
ticks, or 89341 when the frame is odd and rendering is enabled, with the parity toggled (rules R400, R401, R414). -/
def Obligations.FrameLength : Prop :=
  ∀ s : State, s.ppu.scanline = -1 → s.ppu.cycle = 0 →
    let n := if s.ppu.oddFrame && (s.ppu.mask.getLsbD 3 || s.ppu.mask.getLsbD 4) then 89341 else 89342
    (∀ k, 0 < k → k < n →
      ¬ ((ppuTicks k s).ppu.scanline = -1 ∧ (ppuTicks k s).ppu.cycle = 0) ∧
      (ppuTicks k s).ppu.cycle ≤ 340 ∧ -1 ≤ (ppuTicks k s).ppu.scanline ∧ (ppuTicks k s).ppu.scanline ≤ 260) ∧
    (ppuTicks n s).ppu.scanline = -1 ∧ (ppuTicks n s).ppu.cycle = 0 ∧
    (ppuTicks n s).ppu.oddFrame = !s.ppu.oddFrame

/-- The scroll increments, read as coordinates: the horizontal one counts 64 columns over both nametables and touches
no other bit; the vertical one counts 480 rows over both while coarse Y is below 30, and above that goes from coarse
Y 30 to 31 and from 31 to 0 without toggling the nametable; the transfers copy the horizontal and the vertical bits.
A PPU tick applies them to `vram_addr` when rendering is enabled and the line renderable: the horizontal increment at
every eighth cycle of the pipeline's ranges, the vertical one after it at cycle 256, the horizontal transfer at 257,
the vertical one at cycles 280 to 304 of the pre-render line; no other tick changes `vram_addr`
(rules R403, R410 to R413). -/
def Obligations.ScrollArithmetic : Prop :=
  (∀ v t : Scroll,
    let column : Scroll → Nat := fun r => (ntX r).toNat * 32 + (coarseX r).toNat
    let row : Scroll → Nat := fun r => (ntY r).toNat * 240 + (coarseY r).toNat * 8 + (fineY r).toNat
    column (incrementX v) = (column v + 1) % 64 ∧
    (∀ k, 5 ≤ k → k ≠ 10 → (incrementX v).getLsbD k = v.getLsbD k) ∧
    ((coarseY v).toNat < 30 → row (incrementY v) = (row v + 1) % 480) ∧
    (30 ≤ (coarseY v).toNat →
      ntY (incrementY v) = ntY v ∧ (fineY (incrementY v)).toNat = ((fineY v).toNat + 1) % 8 ∧
      (coarseY (incrementY v)).toNat =
        if (fineY v).toNat = 7 then (if (coarseY v).toNat = 31 then 0 else 31) else (coarseY v).toNat) ∧
    column (incrementY v) = column v ∧
    (∀ k < 15, (transferX v t).getLsbD k = if k < 5 ∨ k = 10 then t.getLsbD k else v.getLsbD k) ∧
    (∀ k < 15, (transferY v t).getLsbD k = if k < 5 ∨ k = 10 then v.getLsbD k else t.getLsbD k)) ∧
  ∀ s : State,
    let p := s.ppu
    let c := dot p
    let v1 := if c ∈ [328, 336] ∨ (c % 8 = 0 ∧ 8 ≤ c ∧ c ≤ 256) then incrementX p.vramAddr else p.vramAddr
    let v2 := if c = 256 then incrementY v1 else v1
    let v3 := if c = 257 then transferX v2 p.tramAddr else v2
    let v4 := if p.scanline = -1 ∧ 280 ≤ c ∧ c ≤ 304 then transferY v3 p.tramAddr else v3
    (ppuTick s).ppu.vramAddr = if renderable p && layersOn p then v4 else p.vramAddr

/-- Sprite evaluation: the OAM entries whose Y byte puts the scanline in one of their `h` rows, in OAM order, the
first eight kept; the overflow flag is set when there are more; entry 0 is marked when it is among them (rule R420).
A PPU tick evaluates at cycle 257 of a visible line.  At cycles 2 to 257 of a renderable line with sprites enabled it
counts the X of each selected sprite down and shifts the lane of one whose count was 0 (rule R422); at cycle 340 of a
visible line it fetches the lane of each selected sprite, flipped as the attributes say (rule R421); at cycle 1 of the
pre-render line it clears the lanes and the overflow flag (rule R402); no other tick changes them.  The premises are
the sizes that the invariant gives (obligation StepKeepsInvariant).  The row address on integers, taken modulo 16384,
is log entry 14 where the sprite height was changed since the evaluation. -/
def Obligations.SpriteEvaluationSelects : Prop :=
  ∀ s : State, s.ppu.sprites.length ≤ 8 → s.ppu.lanes.length = 8 →
    let p := s.ppu
    let c := dot p
    let t := ppuTick s
    let h : Nat := if p.ctrl.getLsbD 5 then 16 else 8
    let hit : Nat → Bool := fun n =>
      decide (((p.oam.read (4 * n)).toNat : Int) ≤ p.scanline ∧ p.scanline < (p.oam.read (4 * n)).toNat + h)
    let selected := (List.range 64).filter hit
    let kept : List Sprite := (selected.take 8).map fun n =>
      ⟨p.oam.read (4 * n), p.oam.read (4 * n + 1), p.oam.read (4 * n + 2), p.oam.read (4 * n + 3)⟩
    let evaluates := visibleLine p && decide (c = 257)
    let clears := decide (p.scanline = -1 ∧ c = 1)
    let shifts := renderable p && decide (2 ≤ c ∧ c ≤ 257) && p.mask.getLsbD 4
    let fetches := visibleLine p && decide (c = 340)
    spriteEvaluation p =
      { p with
        sprites := kept
        sprZeroSelected := hit 0
        sprOverflow := p.sprOverflow || decide (8 < selected.length) } ∧
    t.ppu.sprites =
      (if evaluates then kept
      else if shifts then p.sprites.map fun sp => { sp with x := BitVec.ofNat 8 (sp.x.toNat - 1) }
      else p.sprites) ∧
    t.ppu.sprZeroSelected = (if evaluates then hit 0 else p.sprZeroSelected) ∧
    t.ppu.sprOverflow = ((p.sprOverflow && !clears) || (evaluates && decide (8 < selected.length))) ∧
    t.ppu.lanes.length = 8 ∧
    ∀ (k : Nat) (l l' : Lane), p.lanes[k]? = some l → t.ppu.lanes[k]? = some l' →
      (clears → l' = ⟨0, 0⟩) ∧
      (fetches → ∀ sp, p.sprites[k]? = some sp → ∀ j < 8,
        let lo := ppuRead t (BitVec.ofInt 14 (spriteRowAddr p sp))
        let hi := ppuRead t (BitVec.ofInt 14 (spriteRowAddr p sp + 8))
        let src := if sp.attr.getLsbD 6 then 7 - j else j
        l'.lo.getLsbD j = lo.getLsbD src ∧ l'.hi.getLsbD j = hi.getLsbD src) ∧
      (shifts → ∀ sp, p.sprites[k]? = some sp → sp.x = 0 →
        l' = ⟨BitVec.ofNat 8 (2 * l.lo.toNat), BitVec.ofNat 8 (2 * l.hi.toNat)⟩) ∧
      (¬ clears → (p.sprites[k]? = none ∨ (¬ fetches ∧ ¬ (shifts ∧ ∃ sp, p.sprites[k]? = some sp ∧ sp.x = 0))) →
        l' = l)

/-- The picture, as every PPU tick makes it.  The background: in the pipeline's cycles the four shift registers are
shifted if the background is enabled, and at phase 0 their low bytes come from the latches; the tile number is fetched
at phase 0, the two attribute bits at phase 2, the pattern bytes at phases 4 and 6, from the addresses on integers; no
other tick changes them (rules R405 to R409, R412).  The pixel: on cycles 1 to 256 of lines 0 to 239 one is emitted at
x = cycle - 1, y = scanline, with the 6-bit value of the palette entry that the combination table names for the two
layers as the tick's shift leaves them, masked to 0x30 when `gray`, and none on any other dot (that the field `pixel`
is empty there is log entry 11); with both layers disabled that entry is the one at 0x3F00 (rules R430 to R432,
R436). Sprite zero hit is set when both layers are opaque, the foreground is OAM entry 0 and both layers are enabled;
it is cleared at cycle 1 of the pre-render line only (rules R402, R434). -/
def Obligations.PixelOutput : Prop :=
  ∀ s : State,
    let p := s.ppu
    let c := dot p
    let v := p.vramAddr.toNat
    let t := ppuTick s
    let read : Nat → Byte := fun a => ppuRead t (BitVec.ofNat 14 a)
    (t.ppu.bgPatLo = shifterAfter s p.bgPatLo p.nextTileLsb.toNat ∧
      t.ppu.bgPatHi = shifterAfter s p.bgPatHi p.nextTileMsb.toNat ∧
      t.ppu.bgAttrLo = shifterAfter s p.bgAttrLo (eightCopies (p.nextTileAttr.getLsbD 0)) ∧
      t.ppu.bgAttrHi = shifterAfter s p.bgAttrHi (eightCopies (p.nextTileAttr.getLsbD 1))) ∧
    (t.ppu.nextTileId = (if inPhase s 1 then read (0x2000 + v % 4096) else p.nextTileId) ∧
      t.ppu.nextTileAttr =
        (if inPhase s 3 then
          let b := (read (0x23C0 + v / 1024 % 4 * 1024 + v / 128 % 8 * 8 + v / 4 % 8)).toNat
          BitVec.ofNat 8 (b / 2 ^ (v / 64 % 2 * 4 + v / 2 % 2 * 2) % 4)
        else p.nextTileAttr) ∧
      t.ppu.nextTileLsb = (if inPhase s 5 then read (tileRowAddr p) else p.nextTileLsb) ∧
      t.ppu.nextTileMsb = (if inPhase s 7 then read (tileRowAddr p + 8) else p.nextTileMsb)) ∧
    (let visible := visibleLine p && decide (1 ≤ c ∧ c ≤ 256)
     let colour := (read (0x3F00 + shownIndex t.ppu c)).toNat % 64
     t.pixel =
      (if visible then
        some ⟨c - 1, p.scanline.toNat, BitVec.ofNat 6 (if p.mask.getLsbD 0 then colour / 16 * 16 else colour)⟩
      else none) ∧
     t.ppu.spr0Hit =
      ((p.spr0Hit && !decide (p.scanline = -1 ∧ c = 1)) || (visible && spriteZeroHit t.ppu c)) ∧
     (layersOn p = false → shownIndex t.ppu c = 0))

/-! ### The APU -/

/-- Length counters: no APU step and no register write makes a disabled channel's counter non-zero; disabling through
0x4015 clears them; the status byte shows which are running (rules R458, R480, R485). -/
def Obligations.DisabledChannelsStaySilent : Prop :=
  ∀ (a : Apu) (reg : Nat) (v : Byte),
    (disabledAreZero a → disabledAreZero a.step ∧ disabledAreZero (a.write reg v)) ∧
    (let t := a.write 0x15 v
     disabledAreZero t ∧
     (∀ k, t.status.getLsbD k =
      if k = 0 then v.getLsbD 0 && a.pulse1.length.len != 0
      else if k = 1 then v.getLsbD 1 && a.pulse2.length.len != 0
      else if k = 2 then v.getLsbD 2 && a.triangle.length.len != 0
      else if k = 3 then v.getLsbD 3 && a.noise.length.len != 0
      else if k = 6 then a.frameIrq else false))

/-- One clock of an envelope is that of rule R457.  An envelope restarted under a constant control byte: the first
clock sets decay 15, and each further level takes `vol + 1` clocks, down to 0, which holds unless the loop flag is
set; the output is `vol` or the decay. -/
def Obligations.EnvelopeDecays : Prop :=
  (∀ (e : Envelope) (control : Byte), e.clock control = envelopeAfter control e) ∧
  ∀ (e : Envelope) (control : Byte) (k : Nat), e.start = true → k ≤ 15 →
    let vol := (control.toNat % 16)
    let t := envelopeClocks control (1 + k * (vol + 1)) e
    t.decay.toNat = 15 - k ∧ t.start = false ∧
    t.output = (if control.getLsbD 4 then BitVec.ofNat 4 vol else t.decay) ∧
    (envelopeClocks control (1 + 16 * (vol + 1)) e).decay.toNat = if control.getLsbD 5 then 15 else 0

/-- The sweep unit: the target and the mute are computed from the timer, the shift and the direction alone, on
integers, whether or not the sweep is enabled (rule R464); at a half-frame clock the timer takes the target only when
the divider is 0, the unit enabled, the shift non-zero and the channel not muted, so it never wraps; the divider
reloads at 0 or on the reload flag, else counts down (rule R465). -/
def Obligations.SweepMovesTimer : Prop :=
  ∀ (first : Bool) (p : Pulse),
    let mute := p.timer.toNat < 8 ∨ 0x7FF < target first p
    let t := p.clockSweep first
    ((p.sweepTarget first : Nat) : Int) = target first p ∧ p.sweepMute first = decide mute ∧
    (t.timer.toNat : Int) =
      (if p.swDivider = 0 ∧ p.sweep.getLsbD 7 = true ∧ p.sweep.toNat % 8 ≠ 0 ∧ ¬ mute then target first p
      else p.timer.toNat) ∧
    t = { p with
      timer := t.timer
      swDivider := if p.swDivider = 0 ∨ p.swReload = true then BitVec.ofNat 3 (p.sweep.toNat / 16) else p.swDivider - 1
      swReload := false }

/-- The frame sequencer.  An APU step moves the position on and clocks the quarter-frame units at 3729, 7457, 11186 and
the frame's end, the half-frame units at 7457 and the frame's end; at the end the position returns to 0 and, in 4-step
mode with the interrupt not inhibited, the flag rises; the output tuple is sampled after the step (rules R452 to R456,
R466, R487; that it is held in the field `sound` is log entry 11).  So from position 0 in 4-step mode with the
interrupt not inhibited the flag rises at the 14915th step and not before; inhibited, or in 5-step mode, no number of
steps raises it. -/
def Obligations.FrameInterruptTiming : Prop :=
  (∀ s : State,
    let a := s.apu
    let pos := a.fcPos + 1
    let len := if a.fcMode then 18641 else 14915
    let quarter := decide (pos ∈ [3729, 7457, 11186, len])
    let half := decide (pos ∈ [7457, len])
    a.step =
      { clocked quarter half a with
        fcPos := if pos = len then 0 else pos
        frameIrq := a.frameIrq || (decide (pos = len) && !a.fcMode && !a.fcIrqInhibit) } ∧
    apuStep s = { s with apu := a.step, sound := some (soundOf a.step) }) ∧
  ∀ a : Apu, a.fcPos = 0 → a.frameIrq = false →
    (a.fcMode = false → a.fcIrqInhibit = false →
      (∀ k < 14915, (apuSteps k a).frameIrq = false ∧ (apuSteps k a).fcPos = k) ∧
      (apuSteps 14915 a).frameIrq = true ∧ (apuSteps 14915 a).fcPos = 0) ∧
    (a.fcMode = true ∨ a.fcIrqInhibit = true → ∀ k, (apuSteps k a).frameIrq = false)

/-- The APU on the bus: a write to an address from 0x4000 to 0x4017 other than 0x4014 and 0x4016 changes the APU as the
rule of that register says, and nothing else: control, sweep, timer, length load and envelope start of the pulse
channels, the triangle's and the noise channel's registers, the channel enables, the frame counter with the immediate
clock of all units, and nothing at 0x4009, 0x400D and 0x4010 to 0x4013; a read of 0x4015 returns the running channels
and the interrupt flag in bit 6, and clears it (rules R451, R458 to R463, R470 to R477, R480, R484 to R486).  That the
cartridge which declines that read is unchanged is the model's choice, log entry 6. -/
def Obligations.FrameCounterPorts : Prop :=
  ∀ s : State,
    (∀ (reg : Nat) (v : Byte), reg ≤ 0x17 → reg ≠ 0x14 → reg ≠ 0x16 →
      s.cart.cpuWrite (BitVec.ofNat 16 (0x4000 + reg)) v = none →
      memWrite s (BitVec.ofNat 16 (0x4000 + reg)) v = { s with apu := written reg v s.apu }) ∧
    (s.cart.cpuTryRead 0x4015 = none →
      (memRead s 0x4015).1.toNat =
        (if s.apu.frameIrq then 64 else 0) + (if s.apu.noise.length.len ≠ 0 then 8 else 0) +
          (if s.apu.triangle.length.len ≠ 0 then 4 else 0) + (if s.apu.pulse2.length.len ≠ 0 then 2 else 0) +
          (if s.apu.pulse1.length.len ≠ 0 then 1 else 0) ∧
      (memRead s 0x4015).2 = { s with apu := { s.apu with frameIrq := false } })

/-! ### Reset and the invariant -/

/-- The three things the host may do between master ticks.  A reset request: `PC` from the vector at 0xFFFC, low byte
first, the countdown, both latches and the DMA flags; with `Hardware6502` also `S - 3` and `I`; nothing else but what
the vector reads do (rules R501, R502).  New button states: the two `buttons` and nothing else (rule R349).  A forced
`PC`: `PC` and nothing else (rule R353).  That they are functions beside step is log entry 15. -/
def Obligations.ResetRequest : Prop :=
  ∀ s : State,
    let lo := (peek s 0xFFFC).toNat
    let s1 := readEffects s 0xFFFC
    let hi := (peek s1 0xFFFD).toNat
    let s2 := readEffects s1 0xFFFD
    let hw := s.cfg.warmReset = .hardware6502
    hostInput .reset s =
      { s2 with
        cpu :=
          { s.cpu with
            pc := BitVec.ofNat 16 (hi * 256 + lo)
            waitCycles := s.cfg.resetWait
            nmiLatch := false
            irqLatch := false
            s := if hw then s.cpu.s - 3 else s.cpu.s
            i := if hw then true else s.cpu.i }
        dma := { s.dma with transfer := false, dummy := true } } ∧
    (∀ b0 b1, hostInput (.buttons b0 b1) s =
      { s with pad0 := { s.pad0 with buttons := b0 }, pad1 := { s.pad1 with buttons := b1 } }) ∧
    ∀ a, hostInput (.forcePc a) s = { s with cpu := { s.cpu with pc := a } }

/-- Power-on, for any configuration, cartridge and memory contents, field by field: everything is 0 but `S = 0xFD`,
`I = 1`, the DMA dummy flag, the countdown `ResetWait` and `PC`, which is the word at 0xFFFC, low byte first, a byte
that the cartridge declines reading 0; the memories are those supplied; the outputs are empty (log entry 11).  The
status byte reads 0x24.  This holds for either `WarmResetEffect` (log entry 12); that a read the cartridge declines
leaves it alone is log entry 6 (rules R65, R500, R503). -/
def Obligations.PowerOnState : Prop :=
  ∀ (cfg : Config) (cart : Cart) (ram oam nametable palette : Memory),
    let value : Cart → Word → Byte := fun c a => match c.cpuTryRead a with | some v => v | none => 0
    let after : Cart → Word → Cart := fun c a => if (c.cpuTryRead a).isSome then c.readEffects a else c
    let lo := (value cart 0xFFFC).toNat
    let hi := (value (after cart 0xFFFC) 0xFFFD).toNat
    let silent : Length := { len := 0, enabled := false }
    let still : Envelope := { start := false, divider := 0, decay := 0, output := 0 }
    let pulse : Pulse :=
      { control := 0, sweep := 0, timerLow := 0, timerHigh := 0, timer := 0, length := silent, envelope := still
        swDivider := 0, swReload := false }
    let s := boot cfg cart ram oam nametable palette
    s =
      { cpu :=
          { a := 0, x := 0, y := 0, s := 0xFD, pc := BitVec.ofNat 16 (hi * 256 + lo), n := false, v := false
            b := false, d := false, i := true, z := false, c := false, waitCycles := cfg.resetWait
            nmiLatch := false, irqLatch := false }
        ram := ram
        dma := { page := 0, addr := 0, data := 0, transfer := false, dummy := true }
        pad0 := { buttons := 0, shift := 0 }
        pad1 := { buttons := 0, shift := 0 }
        ppu :=
          { cycle := 0, scanline := 0, oddFrame := false, ctrl := 0, mask := 0, vblank := false, spr0Hit := false
            sprOverflow := false, vramAddr := 0, tramAddr := 0, fineX := 0, addrLatch := false, dataBuffer := 0
            oam := oam, oamAddr := 0, nextTileId := 0, nextTileAttr := 0, nextTileLsb := 0, nextTileMsb := 0
            bgPatLo := 0, bgPatHi := 0, bgAttrLo := 0, bgAttrHi := 0, sprites := [], sprZeroSelected := false
            lanes := List.replicate 8 { lo := 0, hi := 0 }, statusReadThisTick := false
            statusReadLastTick := false, nametable := nametable, palette := palette }
        apu :=
          { fcMode := false, fcIrqInhibit := false, fcPos := 0, frameIrq := false, pulse1 := pulse, pulse2 := pulse
            triangle :=
              { linear := 0, timerLow := 0, timerHigh := 0, linearCounter := 0, linearReload := false
                length := silent }
            noise := { control := 0, period := 0, lengthReg := 0, length := silent, envelope := still } }
        master := 0
        cyc := 0
        cart := after (after cart 0xFFFC) 0xFFFD
        cfg := cfg
        pixel := none
        sound := none } ∧
    s.cpu.pbyte s.cpu.b = 0x24

/-- The invariant holds at `State.reset`. -/
def Obligations.InvariantAtReset : Prop := State.reset.Inv

/-- Every step keeps the invariant, from every state that meets it. -/
def Obligations.StepKeepsInvariant : Prop := ∀ s t : State, s.Inv → step s = .next t → t.Inv

/-- Every state reached from any power-on, by steps and host inputs in any order, meets the invariant; in particular
the stored break flag is 0 there (rule R30), so an interrupt entry pushes a status byte with bit 4 clear. -/
def Obligations.ReachableStatesMeetInvariant : Prop :=
  ∀ s : State, Reachable s → s.Inv ∧ (s.cpu.pbyte s.cpu.b).getLsbD 4 = false

end
end

