-- ==== Sys2Proof/Laws/Arith.lean ====
section
/-! SUPPORT. The bit-field helpers on integers: assembling and splitting bytes, pages, sign extension, the status
byte, the fields of the scroll register. -/

namespace Sys2Proof.Machine

/-! ### Bytes and words -/

theorem hilo_toNat (hi lo : Byte) : (hilo hi lo).toNat = hi.toNat * 256 + lo.toNat := by
  rw [hilo, BitVec.toNat_append, ← Nat.shiftLeft_add_eq_or_of_lt lo.isLt, Nat.shiftLeft_eq]

theorem hilo_eq (hi lo : Byte) : hilo hi lo = BitVec.ofNat 16 (hi.toNat * 256 + lo.toNat) := by
  rw [← hilo_toNat, BitVec.ofNat_toNat]
  simp

theorem highByte_eq {w : Word} {n : Nat} (h : w.toNat = n % 65536) : highByte w = BitVec.ofNat 8 (n / 256) := by
  apply BitVec.eq_of_toNat_eq
  simp only [highByte, BitVec.extractLsb'_toNat, h, Nat.shiftRight_eq_div_pow, BitVec.toNat_ofNat]
  omega

theorem lowByte_eq {w : Word} {n : Nat} (h : w.toNat = n % 65536) : lowByte w = BitVec.ofNat 8 n := by
  apply BitVec.eq_of_toNat_eq
  simp [lowByte, h]

/-- Assembling the bytes a word splits into gives the word. -/
theorem assemble16_split (w : Word) : assemble16 (lowByte w) (highByte w) = w := by
  rw [assemble16, hilo_eq]
  apply BitVec.eq_of_toNat_eq
  have := w.isLt
  simp only [lowByte, highByte, BitVec.extractLsb'_toNat, Nat.shiftRight_eq_div_pow, BitVec.toNat_ofNat]
  omega

theorem lowByte_assemble16 (b1 b2 : Byte) : lowByte (assemble16 b1 b2) = b1 := by
  have h1 := b1.isLt
  have h2 := b2.isLt
  apply BitVec.eq_of_toNat_eq
  rw [assemble16, lowByte_eq (n := b2.toNat * 256 + b1.toNat) (by rw [hilo_toNat]; omega), BitVec.toNat_ofNat]
  omega

theorem highByte_assemble16 (b1 b2 : Byte) : highByte (assemble16 b1 b2) = b2 := by
  have h1 := b1.isLt
  have h2 := b2.isLt
  apply BitVec.eq_of_toNat_eq
  rw [assemble16, highByte_eq (n := b2.toNat * 256 + b1.toNat) (by rw [hilo_toNat]; omega), BitVec.toNat_ofNat]
  omega

/-- Bit 7 is the comparison with 128. -/
theorem getLsbD_seven (v : Byte) : v.getLsbD 7 = decide (128 ≤ v.toNat) := by
  have h := BitVec.msb_eq_decide v
  simpa [BitVec.msb_eq_getLsbD_last] using h

/-- A byte as a signed number. -/
theorem toInt_byte (v : Byte) : v.toInt = if 128 ≤ v.toNat then (v.toNat : Int) - 256 else v.toNat := by
  rw [BitVec.toInt_eq_toNat_cond]
  have := v.isLt
  split <;> split <;> omega

/-- A branch displacement is added as a signed number. -/
theorem add_sext16 (d : Byte) (pc : Word) : pc + sext16 d = BitVec.ofInt 16 ((pc.toNat : Int) + d.toInt) := by
  apply BitVec.eq_of_toInt_eq
  simp only [sext16, BitVec.toInt_ofInt, BitVec.toInt_add]
  rw [BitVec.toInt_signExtend_of_le (by decide), BitVec.toInt_eq_toNat_bmod pc]
  simp

theorem zext16_eq {v : Byte} {n : Nat} (h : v.toNat = n % 256) : zext16 v = BitVec.ofNat 16 (n % 256) := by
  apply BitVec.eq_of_toNat_eq
  simp [zext16, h]

/-- The page test on integers. -/
theorem page_bne (a b : Word) : (page a != page b) = !decide (a.toNat / 256 = b.toNat / 256) := by
  have h : page a = page b ↔ a.toNat / 256 = b.toNat / 256 := by
    rw [← BitVec.toNat_inj]
    have := a.isLt
    have := b.isLt
    simp only [page, BitVec.extractLsb'_toNat, Nat.shiftRight_eq_div_pow]
    omega
  by_cases hp : page a = page b <;> simp [hp, ← h]

/-- The address of a stack cell. -/
theorem stackAddr_toNat (sp : Byte) : (stackAddr sp).toNat = 256 + sp.toNat := by
  have := sp.isLt
  simp [stackAddr, zext16]
  omega

/-- The bits of the status byte. -/
theorem pbyte_bits (c : Cpu) (b : Bool) :
    (c.pbyte b).getLsbD 7 = c.n ∧ (c.pbyte b).getLsbD 6 = c.v ∧ (c.pbyte b).getLsbD 5 = true ∧
    (c.pbyte b).getLsbD 4 = b ∧ (c.pbyte b).getLsbD 3 = c.d ∧ (c.pbyte b).getLsbD 2 = c.i ∧
    (c.pbyte b).getLsbD 1 = c.z ∧ (c.pbyte b).getLsbD 0 = c.c := by
  unfold Cpu.pbyte
  cases c.n <;> cases c.v <;> cases b <;> cases c.d <;> cases c.i <;> cases c.z <;> cases c.c <;> decide

/-! ### The scroll register -/

/-- The bits of a scroll register made from its fields. -/
theorem mkScroll_getLsbD (fy : BitVec 3) (ny nx : BitVec 1) (cy cx : BitVec 5) (k : Nat) :
    (mkScroll fy ny nx cy cx).getLsbD k =
      if k < 5 then cx.getLsbD k else if k < 10 then cy.getLsbD (k - 5) else if k = 10 then nx.getLsbD 0
      else if k = 11 then ny.getLsbD 0 else fy.getLsbD (k - 12) := by
  unfold mkScroll
  simp only [BitVec.getLsbD_append]
  by_cases h1 : k < 5
  · simp [h1]
  by_cases h2 : k < 10
  · simp [h1, h2, show k - 5 < 5 by omega]
  by_cases h3 : k = 10
  · subst h3
    simp
  by_cases h4 : k = 11
  · subst h4
    simp
  · simp [h1, h2, h3, h4, show ¬ k - 5 < 5 by omega, show ¬ k - 5 - 5 < 1 by omega,
      show ¬ k - 5 - 5 - 1 < 1 by omega, show k - 5 - 5 - 1 - 1 = k - 12 by omega]

theorem coarseX_getLsbD (r : Scroll) (k : Nat) : (coarseX r).getLsbD k = (decide (k < 5) && r.getLsbD k) := by
  simp [coarseX, BitVec.getLsbD_extractLsb']
theorem coarseY_getLsbD (r : Scroll) (k : Nat) :
    (coarseY r).getLsbD k = (decide (k < 5) && r.getLsbD (5 + k)) := by
  simp [coarseY, BitVec.getLsbD_extractLsb']
theorem ntX_getLsbD (r : Scroll) (k : Nat) : (ntX r).getLsbD k = (decide (k < 1) && r.getLsbD (10 + k)) := by
  simp [ntX, BitVec.getLsbD_extractLsb']
theorem ntY_getLsbD (r : Scroll) (k : Nat) : (ntY r).getLsbD k = (decide (k < 1) && r.getLsbD (11 + k)) := by
  simp [ntY, BitVec.getLsbD_extractLsb']
theorem fineY_getLsbD (r : Scroll) (k : Nat) : (fineY r).getLsbD k = (decide (k < 3) && r.getLsbD (12 + k)) := by
  simp [fineY, BitVec.getLsbD_extractLsb']

variable (fy : BitVec 3) (ny nx : BitVec 1) (cy cx : BitVec 5)

@[simp] theorem fineY_mkScroll : fineY (mkScroll fy ny nx cy cx) = fy := by
  apply BitVec.eq_of_getLsbD_eq
  intro i hi
  rw [fineY_getLsbD, mkScroll_getLsbD]
  interval_cases i <;> simp
@[simp] theorem ntY_mkScroll : ntY (mkScroll fy ny nx cy cx) = ny := by
  apply BitVec.eq_of_getLsbD_eq
  intro i hi
  rw [ntY_getLsbD, mkScroll_getLsbD]
  interval_cases i
  simp
@[simp] theorem ntX_mkScroll : ntX (mkScroll fy ny nx cy cx) = nx := by
  apply BitVec.eq_of_getLsbD_eq
  intro i hi
  rw [ntX_getLsbD, mkScroll_getLsbD]
  interval_cases i
  simp
@[simp] theorem coarseY_mkScroll : coarseY (mkScroll fy ny nx cy cx) = cy := by
  apply BitVec.eq_of_getLsbD_eq
  intro i hi
  rw [coarseY_getLsbD, mkScroll_getLsbD]
  interval_cases i <;> simp
@[simp] theorem coarseX_mkScroll : coarseX (mkScroll fy ny nx cy cx) = cx := by
  apply BitVec.eq_of_getLsbD_eq
  intro i hi
  rw [coarseX_getLsbD, mkScroll_getLsbD]
  interval_cases i <;> simp

end Sys2Proof.Machine
end

