-- ==== Sys2Proof/Laws/State.lean ====
section
/-! SUPPORT. One lemma per field per update of the machine's records, each true by `rfl`, so that no proof
unfolds a record update. -/

namespace Sys2Proof.Machine

/-! ### Updates of the CPU inside the state -/

@[simp] theorem withCpu_cpu (s : State) (c : Cpu) : (s.withCpu c).cpu = c := rfl
@[simp] theorem withCpu_ram (s : State) (c : Cpu) : (s.withCpu c).ram = s.ram := rfl
@[simp] theorem withCpu_dma (s : State) (c : Cpu) : (s.withCpu c).dma = s.dma := rfl
@[simp] theorem withCpu_pad0 (s : State) (c : Cpu) : (s.withCpu c).pad0 = s.pad0 := rfl
@[simp] theorem withCpu_pad1 (s : State) (c : Cpu) : (s.withCpu c).pad1 = s.pad1 := rfl
@[simp] theorem withCpu_ppu (s : State) (c : Cpu) : (s.withCpu c).ppu = s.ppu := rfl
@[simp] theorem withCpu_apu (s : State) (c : Cpu) : (s.withCpu c).apu = s.apu := rfl
@[simp] theorem withCpu_master (s : State) (c : Cpu) : (s.withCpu c).master = s.master := rfl
@[simp] theorem withCpu_cyc (s : State) (c : Cpu) : (s.withCpu c).cyc = s.cyc := rfl
@[simp] theorem withCpu_cart (s : State) (c : Cpu) : (s.withCpu c).cart = s.cart := rfl
@[simp] theorem withCpu_cfg (s : State) (c : Cpu) : (s.withCpu c).cfg = s.cfg := rfl
@[simp] theorem withCpu_pixel (s : State) (c : Cpu) : (s.withCpu c).pixel = s.pixel := rfl
@[simp] theorem withCpu_sound (s : State) (c : Cpu) : (s.withCpu c).sound = s.sound := rfl
@[simp] theorem withCpu_withCpu (s : State) (c d : Cpu) : (s.withCpu c).withCpu d = s.withCpu d := rfl
@[simp] theorem withCpu_self (s : State) : s.withCpu s.cpu = s := rfl

@[simp] theorem jumpTo_ram (s : State) (a : Word) : (jumpTo s a).ram = s.ram := rfl
@[simp] theorem jumpTo_dma (s : State) (a : Word) : (jumpTo s a).dma = s.dma := rfl
@[simp] theorem jumpTo_pad0 (s : State) (a : Word) : (jumpTo s a).pad0 = s.pad0 := rfl
@[simp] theorem jumpTo_pad1 (s : State) (a : Word) : (jumpTo s a).pad1 = s.pad1 := rfl
@[simp] theorem jumpTo_ppu (s : State) (a : Word) : (jumpTo s a).ppu = s.ppu := rfl
@[simp] theorem jumpTo_apu (s : State) (a : Word) : (jumpTo s a).apu = s.apu := rfl
@[simp] theorem jumpTo_master (s : State) (a : Word) : (jumpTo s a).master = s.master := rfl
@[simp] theorem jumpTo_cyc (s : State) (a : Word) : (jumpTo s a).cyc = s.cyc := rfl
@[simp] theorem jumpTo_cart (s : State) (a : Word) : (jumpTo s a).cart = s.cart := rfl
@[simp] theorem jumpTo_cfg (s : State) (a : Word) : (jumpTo s a).cfg = s.cfg := rfl
@[simp] theorem jumpTo_pixel (s : State) (a : Word) : (jumpTo s a).pixel = s.pixel := rfl
@[simp] theorem jumpTo_sound (s : State) (a : Word) : (jumpTo s a).sound = s.sound := rfl
@[simp] theorem jumpTo_cpu_a (s : State) (a : Word) : (jumpTo s a).cpu.a = s.cpu.a := rfl
@[simp] theorem jumpTo_cpu_x (s : State) (a : Word) : (jumpTo s a).cpu.x = s.cpu.x := rfl
@[simp] theorem jumpTo_cpu_y (s : State) (a : Word) : (jumpTo s a).cpu.y = s.cpu.y := rfl
@[simp] theorem jumpTo_cpu_s (s : State) (a : Word) : (jumpTo s a).cpu.s = s.cpu.s := rfl
@[simp] theorem jumpTo_cpu_pc (s : State) (a : Word) : (jumpTo s a).cpu.pc = a := rfl
@[simp] theorem jumpTo_cpu_n (s : State) (a : Word) : (jumpTo s a).cpu.n = s.cpu.n := rfl
@[simp] theorem jumpTo_cpu_v (s : State) (a : Word) : (jumpTo s a).cpu.v = s.cpu.v := rfl
@[simp] theorem jumpTo_cpu_b (s : State) (a : Word) : (jumpTo s a).cpu.b = s.cpu.b := rfl
@[simp] theorem jumpTo_cpu_d (s : State) (a : Word) : (jumpTo s a).cpu.d = s.cpu.d := rfl
@[simp] theorem jumpTo_cpu_i (s : State) (a : Word) : (jumpTo s a).cpu.i = s.cpu.i := rfl
@[simp] theorem jumpTo_cpu_z (s : State) (a : Word) : (jumpTo s a).cpu.z = s.cpu.z := rfl
@[simp] theorem jumpTo_cpu_c (s : State) (a : Word) : (jumpTo s a).cpu.c = s.cpu.c := rfl
@[simp] theorem jumpTo_cpu_waitCycles (s : State) (a : Word) : (jumpTo s a).cpu.waitCycles = s.cpu.waitCycles := rfl
@[simp] theorem jumpTo_cpu_nmiLatch (s : State) (a : Word) : (jumpTo s a).cpu.nmiLatch = s.cpu.nmiLatch := rfl
@[simp] theorem jumpTo_cpu_irqLatch (s : State) (a : Word) : (jumpTo s a).cpu.irqLatch = s.cpu.irqLatch := rfl

@[simp] theorem setWait_ram (s : State) (n : Nat) : (setWait s n).ram = s.ram := rfl
@[simp] theorem setWait_dma (s : State) (n : Nat) : (setWait s n).dma = s.dma := rfl
@[simp] theorem setWait_pad0 (s : State) (n : Nat) : (setWait s n).pad0 = s.pad0 := rfl
@[simp] theorem setWait_pad1 (s : State) (n : Nat) : (setWait s n).pad1 = s.pad1 := rfl
@[simp] theorem setWait_ppu (s : State) (n : Nat) : (setWait s n).ppu = s.ppu := rfl
@[simp] theorem setWait_apu (s : State) (n : Nat) : (setWait s n).apu = s.apu := rfl
@[simp] theorem setWait_master (s : State) (n : Nat) : (setWait s n).master = s.master := rfl
@[simp] theorem setWait_cyc (s : State) (n : Nat) : (setWait s n).cyc = s.cyc := rfl
@[simp] theorem setWait_cart (s : State) (n : Nat) : (setWait s n).cart = s.cart := rfl
@[simp] theorem setWait_cfg (s : State) (n : Nat) : (setWait s n).cfg = s.cfg := rfl
@[simp] theorem setWait_pixel (s : State) (n : Nat) : (setWait s n).pixel = s.pixel := rfl
@[simp] theorem setWait_sound (s : State) (n : Nat) : (setWait s n).sound = s.sound := rfl
@[simp] theorem setWait_cpu_a (s : State) (n : Nat) : (setWait s n).cpu.a = s.cpu.a := rfl
@[simp] theorem setWait_cpu_x (s : State) (n : Nat) : (setWait s n).cpu.x = s.cpu.x := rfl
@[simp] theorem setWait_cpu_y (s : State) (n : Nat) : (setWait s n).cpu.y = s.cpu.y := rfl
@[simp] theorem setWait_cpu_s (s : State) (n : Nat) : (setWait s n).cpu.s = s.cpu.s := rfl
@[simp] theorem setWait_cpu_pc (s : State) (n : Nat) : (setWait s n).cpu.pc = s.cpu.pc := rfl
@[simp] theorem setWait_cpu_n (s : State) (n : Nat) : (setWait s n).cpu.n = s.cpu.n := rfl
@[simp] theorem setWait_cpu_v (s : State) (n : Nat) : (setWait s n).cpu.v = s.cpu.v := rfl
@[simp] theorem setWait_cpu_b (s : State) (n : Nat) : (setWait s n).cpu.b = s.cpu.b := rfl
@[simp] theorem setWait_cpu_d (s : State) (n : Nat) : (setWait s n).cpu.d = s.cpu.d := rfl
@[simp] theorem setWait_cpu_i (s : State) (n : Nat) : (setWait s n).cpu.i = s.cpu.i := rfl
@[simp] theorem setWait_cpu_z (s : State) (n : Nat) : (setWait s n).cpu.z = s.cpu.z := rfl
@[simp] theorem setWait_cpu_c (s : State) (n : Nat) : (setWait s n).cpu.c = s.cpu.c := rfl
@[simp] theorem setWait_cpu_waitCycles (s : State) (n : Nat) : (setWait s n).cpu.waitCycles = n := rfl
@[simp] theorem setWait_cpu_nmiLatch (s : State) (n : Nat) : (setWait s n).cpu.nmiLatch = s.cpu.nmiLatch := rfl
@[simp] theorem setWait_cpu_irqLatch (s : State) (n : Nat) : (setWait s n).cpu.irqLatch = s.cpu.irqLatch := rfl

@[simp] theorem addWait_ram (s : State) : (addWait s).ram = s.ram := rfl
@[simp] theorem addWait_dma (s : State) : (addWait s).dma = s.dma := rfl
@[simp] theorem addWait_pad0 (s : State) : (addWait s).pad0 = s.pad0 := rfl
@[simp] theorem addWait_pad1 (s : State) : (addWait s).pad1 = s.pad1 := rfl
@[simp] theorem addWait_ppu (s : State) : (addWait s).ppu = s.ppu := rfl
@[simp] theorem addWait_apu (s : State) : (addWait s).apu = s.apu := rfl
@[simp] theorem addWait_master (s : State) : (addWait s).master = s.master := rfl
@[simp] theorem addWait_cyc (s : State) : (addWait s).cyc = s.cyc := rfl
@[simp] theorem addWait_cart (s : State) : (addWait s).cart = s.cart := rfl
@[simp] theorem addWait_cfg (s : State) : (addWait s).cfg = s.cfg := rfl
@[simp] theorem addWait_pixel (s : State) : (addWait s).pixel = s.pixel := rfl
@[simp] theorem addWait_sound (s : State) : (addWait s).sound = s.sound := rfl
@[simp] theorem addWait_cpu_a (s : State) : (addWait s).cpu.a = s.cpu.a := rfl
@[simp] theorem addWait_cpu_x (s : State) : (addWait s).cpu.x = s.cpu.x := rfl
@[simp] theorem addWait_cpu_y (s : State) : (addWait s).cpu.y = s.cpu.y := rfl
@[simp] theorem addWait_cpu_s (s : State) : (addWait s).cpu.s = s.cpu.s := rfl
@[simp] theorem addWait_cpu_pc (s : State) : (addWait s).cpu.pc = s.cpu.pc := rfl
@[simp] theorem addWait_cpu_n (s : State) : (addWait s).cpu.n = s.cpu.n := rfl
@[simp] theorem addWait_cpu_v (s : State) : (addWait s).cpu.v = s.cpu.v := rfl
@[simp] theorem addWait_cpu_b (s : State) : (addWait s).cpu.b = s.cpu.b := rfl
@[simp] theorem addWait_cpu_d (s : State) : (addWait s).cpu.d = s.cpu.d := rfl
@[simp] theorem addWait_cpu_i (s : State) : (addWait s).cpu.i = s.cpu.i := rfl
@[simp] theorem addWait_cpu_z (s : State) : (addWait s).cpu.z = s.cpu.z := rfl
@[simp] theorem addWait_cpu_c (s : State) : (addWait s).cpu.c = s.cpu.c := rfl
@[simp] theorem addWait_cpu_waitCycles (s : State) : (addWait s).cpu.waitCycles = s.cpu.waitCycles + 1 := rfl
@[simp] theorem addWait_cpu_nmiLatch (s : State) : (addWait s).cpu.nmiLatch = s.cpu.nmiLatch := rfl
@[simp] theorem addWait_cpu_irqLatch (s : State) : (addWait s).cpu.irqLatch = s.cpu.irqLatch := rfl

/-! ### Updates of the CPU registers -/

@[simp] theorem Cpu.setZN_a (c : Cpu) (v : Byte) : (c.setZN v).a = c.a := rfl
@[simp] theorem Cpu.setZN_x (c : Cpu) (v : Byte) : (c.setZN v).x = c.x := rfl
@[simp] theorem Cpu.setZN_y (c : Cpu) (v : Byte) : (c.setZN v).y = c.y := rfl
@[simp] theorem Cpu.setZN_s (c : Cpu) (v : Byte) : (c.setZN v).s = c.s := rfl
@[simp] theorem Cpu.setZN_pc (c : Cpu) (v : Byte) : (c.setZN v).pc = c.pc := rfl
@[simp] theorem Cpu.setZN_n (c : Cpu) (v : Byte) : (c.setZN v).n = bit v 7 := rfl
@[simp] theorem Cpu.setZN_v (c : Cpu) (v : Byte) : (c.setZN v).v = c.v := rfl
@[simp] theorem Cpu.setZN_b (c : Cpu) (v : Byte) : (c.setZN v).b = c.b := rfl
@[simp] theorem Cpu.setZN_d (c : Cpu) (v : Byte) : (c.setZN v).d = c.d := rfl
@[simp] theorem Cpu.setZN_i (c : Cpu) (v : Byte) : (c.setZN v).i = c.i := rfl
@[simp] theorem Cpu.setZN_z (c : Cpu) (v : Byte) : (c.setZN v).z = (v == 0) := rfl
@[simp] theorem Cpu.setZN_c (c : Cpu) (v : Byte) : (c.setZN v).c = c.c := rfl
@[simp] theorem Cpu.setZN_waitCycles (c : Cpu) (v : Byte) : (c.setZN v).waitCycles = c.waitCycles := rfl
@[simp] theorem Cpu.setZN_nmiLatch (c : Cpu) (v : Byte) : (c.setZN v).nmiLatch = c.nmiLatch := rfl
@[simp] theorem Cpu.setZN_irqLatch (c : Cpu) (v : Byte) : (c.setZN v).irqLatch = c.irqLatch := rfl

@[simp] theorem Cpu.setP_a (c : Cpu) (v : Byte) : (c.setP v).a = c.a := rfl
@[simp] theorem Cpu.setP_x (c : Cpu) (v : Byte) : (c.setP v).x = c.x := rfl
@[simp] theorem Cpu.setP_y (c : Cpu) (v : Byte) : (c.setP v).y = c.y := rfl
@[simp] theorem Cpu.setP_s (c : Cpu) (v : Byte) : (c.setP v).s = c.s := rfl
@[simp] theorem Cpu.setP_pc (c : Cpu) (v : Byte) : (c.setP v).pc = c.pc := rfl
@[simp] theorem Cpu.setP_n (c : Cpu) (v : Byte) : (c.setP v).n = bit v 7 := rfl
@[simp] theorem Cpu.setP_v (c : Cpu) (v : Byte) : (c.setP v).v = bit v 6 := rfl
@[simp] theorem Cpu.setP_b (c : Cpu) (v : Byte) : (c.setP v).b = c.b := rfl
@[simp] theorem Cpu.setP_d (c : Cpu) (v : Byte) : (c.setP v).d = bit v 3 := rfl
@[simp] theorem Cpu.setP_i (c : Cpu) (v : Byte) : (c.setP v).i = bit v 2 := rfl
@[simp] theorem Cpu.setP_z (c : Cpu) (v : Byte) : (c.setP v).z = bit v 1 := rfl
@[simp] theorem Cpu.setP_c (c : Cpu) (v : Byte) : (c.setP v).c = bit v 0 := rfl
@[simp] theorem Cpu.setP_waitCycles (c : Cpu) (v : Byte) : (c.setP v).waitCycles = c.waitCycles := rfl
@[simp] theorem Cpu.setP_nmiLatch (c : Cpu) (v : Byte) : (c.setP v).nmiLatch = c.nmiLatch := rfl
@[simp] theorem Cpu.setP_irqLatch (c : Cpu) (v : Byte) : (c.setP v).irqLatch = c.irqLatch := rfl

@[simp] theorem Cpu.loadA_a (c : Cpu) (v : Byte) : (c.loadA v).a = v := rfl
@[simp] theorem Cpu.loadA_x (c : Cpu) (v : Byte) : (c.loadA v).x = c.x := rfl
@[simp] theorem Cpu.loadA_y (c : Cpu) (v : Byte) : (c.loadA v).y = c.y := rfl
@[simp] theorem Cpu.loadA_s (c : Cpu) (v : Byte) : (c.loadA v).s = c.s := rfl
@[simp] theorem Cpu.loadA_pc (c : Cpu) (v : Byte) : (c.loadA v).pc = c.pc := rfl
@[simp] theorem Cpu.loadA_n (c : Cpu) (v : Byte) : (c.loadA v).n = bit v 7 := rfl
@[simp] theorem Cpu.loadA_v (c : Cpu) (v : Byte) : (c.loadA v).v = c.v := rfl
@[simp] theorem Cpu.loadA_b (c : Cpu) (v : Byte) : (c.loadA v).b = c.b := rfl
@[simp] theorem Cpu.loadA_d (c : Cpu) (v : Byte) : (c.loadA v).d = c.d := rfl
@[simp] theorem Cpu.loadA_i (c : Cpu) (v : Byte) : (c.loadA v).i = c.i := rfl
@[simp] theorem Cpu.loadA_z (c : Cpu) (v : Byte) : (c.loadA v).z = (v == 0) := rfl
@[simp] theorem Cpu.loadA_c (c : Cpu) (v : Byte) : (c.loadA v).c = c.c := rfl
@[simp] theorem Cpu.loadA_waitCycles (c : Cpu) (v : Byte) : (c.loadA v).waitCycles = c.waitCycles := rfl
@[simp] theorem Cpu.loadA_nmiLatch (c : Cpu) (v : Byte) : (c.loadA v).nmiLatch = c.nmiLatch := rfl
@[simp] theorem Cpu.loadA_irqLatch (c : Cpu) (v : Byte) : (c.loadA v).irqLatch = c.irqLatch := rfl

@[simp] theorem Cpu.loadX_a (c : Cpu) (v : Byte) : (c.loadX v).a = c.a := rfl
@[simp] theorem Cpu.loadX_x (c : Cpu) (v : Byte) : (c.loadX v).x = v := rfl
@[simp] theorem Cpu.loadX_y (c : Cpu) (v : Byte) : (c.loadX v).y = c.y := rfl
@[simp] theorem Cpu.loadX_s (c : Cpu) (v : Byte) : (c.loadX v).s = c.s := rfl
@[simp] theorem Cpu.loadX_pc (c : Cpu) (v : Byte) : (c.loadX v).pc = c.pc := rfl
@[simp] theorem Cpu.loadX_n (c : Cpu) (v : Byte) : (c.loadX v).n = bit v 7 := rfl
@[simp] theorem Cpu.loadX_v (c : Cpu) (v : Byte) : (c.loadX v).v = c.v := rfl
@[simp] theorem Cpu.loadX_b (c : Cpu) (v : Byte) : (c.loadX v).b = c.b := rfl
@[simp] theorem Cpu.loadX_d (c : Cpu) (v : Byte) : (c.loadX v).d = c.d := rfl
@[simp] theorem Cpu.loadX_i (c : Cpu) (v : Byte) : (c.loadX v).i = c.i := rfl
@[simp] theorem Cpu.loadX_z (c : Cpu) (v : Byte) : (c.loadX v).z = (v == 0) := rfl
@[simp] theorem Cpu.loadX_c (c : Cpu) (v : Byte) : (c.loadX v).c = c.c := rfl
@[simp] theorem Cpu.loadX_waitCycles (c : Cpu) (v : Byte) : (c.loadX v).waitCycles = c.waitCycles := rfl
@[simp] theorem Cpu.loadX_nmiLatch (c : Cpu) (v : Byte) : (c.loadX v).nmiLatch = c.nmiLatch := rfl
@[simp] theorem Cpu.loadX_irqLatch (c : Cpu) (v : Byte) : (c.loadX v).irqLatch = c.irqLatch := rfl

@[simp] theorem Cpu.loadY_a (c : Cpu) (v : Byte) : (c.loadY v).a = c.a := rfl
@[simp] theorem Cpu.loadY_x (c : Cpu) (v : Byte) : (c.loadY v).x = c.x := rfl
@[simp] theorem Cpu.loadY_y (c : Cpu) (v : Byte) : (c.loadY v).y = v := rfl
@[simp] theorem Cpu.loadY_s (c : Cpu) (v : Byte) : (c.loadY v).s = c.s := rfl
@[simp] theorem Cpu.loadY_pc (c : Cpu) (v : Byte) : (c.loadY v).pc = c.pc := rfl
@[simp] theorem Cpu.loadY_n (c : Cpu) (v : Byte) : (c.loadY v).n = bit v 7 := rfl
@[simp] theorem Cpu.loadY_v (c : Cpu) (v : Byte) : (c.loadY v).v = c.v := rfl
@[simp] theorem Cpu.loadY_b (c : Cpu) (v : Byte) : (c.loadY v).b = c.b := rfl
@[simp] theorem Cpu.loadY_d (c : Cpu) (v : Byte) : (c.loadY v).d = c.d := rfl
@[simp] theorem Cpu.loadY_i (c : Cpu) (v : Byte) : (c.loadY v).i = c.i := rfl
@[simp] theorem Cpu.loadY_z (c : Cpu) (v : Byte) : (c.loadY v).z = (v == 0) := rfl
@[simp] theorem Cpu.loadY_c (c : Cpu) (v : Byte) : (c.loadY v).c = c.c := rfl
@[simp] theorem Cpu.loadY_waitCycles (c : Cpu) (v : Byte) : (c.loadY v).waitCycles = c.waitCycles := rfl
@[simp] theorem Cpu.loadY_nmiLatch (c : Cpu) (v : Byte) : (c.loadY v).nmiLatch = c.nmiLatch := rfl
@[simp] theorem Cpu.loadY_irqLatch (c : Cpu) (v : Byte) : (c.loadY v).irqLatch = c.irqLatch := rfl

@[simp] theorem Cpu.compare_a (c : Cpu) (r m : Byte) : (c.compare r m).a = c.a := rfl
@[simp] theorem Cpu.compare_x (c : Cpu) (r m : Byte) : (c.compare r m).x = c.x := rfl
@[simp] theorem Cpu.compare_y (c : Cpu) (r m : Byte) : (c.compare r m).y = c.y := rfl
@[simp] theorem Cpu.compare_s (c : Cpu) (r m : Byte) : (c.compare r m).s = c.s := rfl
@[simp] theorem Cpu.compare_pc (c : Cpu) (r m : Byte) : (c.compare r m).pc = c.pc := rfl
@[simp] theorem Cpu.compare_n (c : Cpu) (r m : Byte) : (c.compare r m).n = bit (r - m) 7 := rfl
@[simp] theorem Cpu.compare_v (c : Cpu) (r m : Byte) : (c.compare r m).v = c.v := rfl
@[simp] theorem Cpu.compare_b (c : Cpu) (r m : Byte) : (c.compare r m).b = c.b := rfl
@[simp] theorem Cpu.compare_d (c : Cpu) (r m : Byte) : (c.compare r m).d = c.d := rfl
@[simp] theorem Cpu.compare_i (c : Cpu) (r m : Byte) : (c.compare r m).i = c.i := rfl
@[simp] theorem Cpu.compare_z (c : Cpu) (r m : Byte) : (c.compare r m).z = (r - m == 0) := rfl
@[simp] theorem Cpu.compare_c (c : Cpu) (r m : Byte) : (c.compare r m).c = decide (m.toNat ≤ r.toNat) := rfl
@[simp] theorem Cpu.compare_waitCycles (c : Cpu) (r m : Byte) : (c.compare r m).waitCycles = c.waitCycles := rfl
@[simp] theorem Cpu.compare_nmiLatch (c : Cpu) (r m : Byte) : (c.compare r m).nmiLatch = c.nmiLatch := rfl
@[simp] theorem Cpu.compare_irqLatch (c : Cpu) (r m : Byte) : (c.compare r m).irqLatch = c.irqLatch := rfl

@[simp] theorem Cpu.bitTest_a (c : Cpu) (m : Byte) : (c.bitTest m).a = c.a := rfl
@[simp] theorem Cpu.bitTest_x (c : Cpu) (m : Byte) : (c.bitTest m).x = c.x := rfl
@[simp] theorem Cpu.bitTest_y (c : Cpu) (m : Byte) : (c.bitTest m).y = c.y := rfl
@[simp] theorem Cpu.bitTest_s (c : Cpu) (m : Byte) : (c.bitTest m).s = c.s := rfl
@[simp] theorem Cpu.bitTest_pc (c : Cpu) (m : Byte) : (c.bitTest m).pc = c.pc := rfl
@[simp] theorem Cpu.bitTest_n (c : Cpu) (m : Byte) : (c.bitTest m).n = bit m 7 := rfl
@[simp] theorem Cpu.bitTest_v (c : Cpu) (m : Byte) : (c.bitTest m).v = bit m 6 := rfl
@[simp] theorem Cpu.bitTest_b (c : Cpu) (m : Byte) : (c.bitTest m).b = c.b := rfl
@[simp] theorem Cpu.bitTest_d (c : Cpu) (m : Byte) : (c.bitTest m).d = c.d := rfl
@[simp] theorem Cpu.bitTest_i (c : Cpu) (m : Byte) : (c.bitTest m).i = c.i := rfl
@[simp] theorem Cpu.bitTest_z (c : Cpu) (m : Byte) : (c.bitTest m).z = (c.a &&& m == 0) := rfl
@[simp] theorem Cpu.bitTest_c (c : Cpu) (m : Byte) : (c.bitTest m).c = c.c := rfl
@[simp] theorem Cpu.bitTest_waitCycles (c : Cpu) (m : Byte) : (c.bitTest m).waitCycles = c.waitCycles := rfl
@[simp] theorem Cpu.bitTest_nmiLatch (c : Cpu) (m : Byte) : (c.bitTest m).nmiLatch = c.nmiLatch := rfl
@[simp] theorem Cpu.bitTest_irqLatch (c : Cpu) (m : Byte) : (c.bitTest m).irqLatch = c.irqLatch := rfl

@[simp] theorem Cpu.addWithCarry_x (c : Cpu) (m : Byte) : (c.addWithCarry m).x = c.x := rfl
@[simp] theorem Cpu.addWithCarry_y (c : Cpu) (m : Byte) : (c.addWithCarry m).y = c.y := rfl
@[simp] theorem Cpu.addWithCarry_s (c : Cpu) (m : Byte) : (c.addWithCarry m).s = c.s := rfl
@[simp] theorem Cpu.addWithCarry_pc (c : Cpu) (m : Byte) : (c.addWithCarry m).pc = c.pc := rfl
@[simp] theorem Cpu.addWithCarry_b (c : Cpu) (m : Byte) : (c.addWithCarry m).b = c.b := rfl
@[simp] theorem Cpu.addWithCarry_d (c : Cpu) (m : Byte) : (c.addWithCarry m).d = c.d := rfl
@[simp] theorem Cpu.addWithCarry_i (c : Cpu) (m : Byte) : (c.addWithCarry m).i = c.i := rfl
@[simp] theorem Cpu.addWithCarry_waitCycles (c : Cpu) (m : Byte) : (c.addWithCarry m).waitCycles = c.waitCycles := rfl
@[simp] theorem Cpu.addWithCarry_nmiLatch (c : Cpu) (m : Byte) : (c.addWithCarry m).nmiLatch = c.nmiLatch := rfl
@[simp] theorem Cpu.addWithCarry_irqLatch (c : Cpu) (m : Byte) : (c.addWithCarry m).irqLatch = c.irqLatch := rfl

@[simp] theorem Cpu.subWithBorrow_x (c : Cpu) (m : Byte) : (c.subWithBorrow m).x = c.x := rfl
@[simp] theorem Cpu.subWithBorrow_y (c : Cpu) (m : Byte) : (c.subWithBorrow m).y = c.y := rfl
@[simp] theorem Cpu.subWithBorrow_s (c : Cpu) (m : Byte) : (c.subWithBorrow m).s = c.s := rfl
@[simp] theorem Cpu.subWithBorrow_pc (c : Cpu) (m : Byte) : (c.subWithBorrow m).pc = c.pc := rfl
@[simp] theorem Cpu.subWithBorrow_b (c : Cpu) (m : Byte) : (c.subWithBorrow m).b = c.b := rfl
@[simp] theorem Cpu.subWithBorrow_d (c : Cpu) (m : Byte) : (c.subWithBorrow m).d = c.d := rfl
@[simp] theorem Cpu.subWithBorrow_i (c : Cpu) (m : Byte) : (c.subWithBorrow m).i = c.i := rfl
@[simp] theorem Cpu.subWithBorrow_waitCycles (c : Cpu) (m : Byte) : (c.subWithBorrow m).waitCycles = c.waitCycles := rfl
@[simp] theorem Cpu.subWithBorrow_nmiLatch (c : Cpu) (m : Byte) : (c.subWithBorrow m).nmiLatch = c.nmiLatch := rfl
@[simp] theorem Cpu.subWithBorrow_irqLatch (c : Cpu) (m : Byte) : (c.subWithBorrow m).irqLatch = c.irqLatch := rfl

@[simp] theorem Cpu.asl_fst (m : Byte) (c : Cpu) : (Cpu.asl m c).1 = (m <<< 1) := rfl
@[simp] theorem Cpu.asl_snd (m : Byte) (c : Cpu) : (Cpu.asl m c).2 = { c with c := bit m 7 } := rfl
@[simp] theorem Cpu.lsr_fst (m : Byte) (c : Cpu) : (Cpu.lsr m c).1 = (m >>> 1) := rfl
@[simp] theorem Cpu.lsr_snd (m : Byte) (c : Cpu) : (Cpu.lsr m c).2 = { c with c := bit m 0 } := rfl
@[simp] theorem Cpu.rol_fst (m : Byte) (c : Cpu) : (Cpu.rol m c).1 = ((m <<< 1) ||| (BitVec.ofBool c.c).zeroExtend 8) := rfl
@[simp] theorem Cpu.rol_snd (m : Byte) (c : Cpu) : (Cpu.rol m c).2 = { c with c := bit m 7 } := rfl
@[simp] theorem Cpu.ror_fst (m : Byte) (c : Cpu) : (Cpu.ror m c).1 = ((m >>> 1) ||| ((BitVec.ofBool c.c).zeroExtend 8 <<< 7)) := rfl
@[simp] theorem Cpu.ror_snd (m : Byte) (c : Cpu) : (Cpu.ror m c).2 = { c with c := bit m 0 } := rfl
@[simp] theorem Cpu.inc_fst (m : Byte) (c : Cpu) : (Cpu.inc m c).1 = m + 1 := rfl
@[simp] theorem Cpu.inc_snd (m : Byte) (c : Cpu) : (Cpu.inc m c).2 = c := rfl
@[simp] theorem Cpu.dec_fst (m : Byte) (c : Cpu) : (Cpu.dec m c).1 = m - 1 := rfl
@[simp] theorem Cpu.dec_snd (m : Byte) (c : Cpu) : (Cpu.dec m c).2 = c := rfl

end Sys2Proof.Machine
end

