-- ==== Sys2Proof/Laws/Bus.lean ====
section
/-! SUPPORT. What a bus access can do: a read's side effects and a write leave the CPU alone and neither
depends on it; which parts of the machine each can change. -/

namespace Sys2Proof.Machine

/-! ### The PPU bus -/

/-- A PPU bus write changes at most the cartridge, nametable RAM or palette RAM. -/
theorem ppuWrite_cases (s : State) (a : PpuAddr) (v : Byte) :
    (∃ c, s.cart.ppuWrite a v = some c ∧ ppuWrite s a v = { s with cart := c }) ∨
    (s.cart.ppuWrite a v = none ∧
      ((a.toNat < 0x2000 ∧ ppuWrite s a v = s) ∨
       (0x2000 ≤ a.toNat ∧ a.toNat < 0x3F00 ∧ ppuWrite s a v =
          { s with
            ppu :=
              { s.ppu with
                nametable :=
                  s.ppu.nametable.write (nametableIndex s.cart.mirroring s.cfg.singleScreenTable a) v } }) ∨
       (0x3F00 ≤ a.toNat ∧ ppuWrite s a v =
          { s with ppu := { s.ppu with palette := s.ppu.palette.write (paletteIndex a) v } }))) := by
  unfold ppuWrite
  cases hc : s.cart.ppuWrite a v with
  | some c => exact .inl ⟨c, rfl, rfl⟩
  | none =>
    refine .inr ⟨rfl, ?_⟩
    by_cases h1 : a.toNat < 0x2000
    · exact .inl ⟨h1, by simp [h1]⟩
    · by_cases h2 : a.toNat < 0x3F00
      · exact .inr (.inl ⟨by omega, h2, by simp [h1, h2]⟩)
      · exact .inr (.inr ⟨by omega, by simp [h1, h2]⟩)

/-- The physical index of a nametable address lies inside nametable RAM. -/
theorem nametableIndex_lt (m : Mirroring) (single : BitVec 2) (a : PpuAddr) :
    nametableIndex m single a < Config.nametableSize := by
  unfold nametableIndex Config.nametableSize
  have := (physTable m single (a.extractLsb' 10 2)).isLt
  have := (a.extractLsb' 0 10).isLt
  omega

/-- The palette index lies inside palette RAM. -/
theorem paletteIndex_lt (a : PpuAddr) : paletteIndex a < Config.paletteSize := by
  unfold paletteIndex Config.paletteSize
  simp only
  split <;> omega

/-- The work RAM index lies inside work RAM. -/
theorem ramIndex_lt (a : Word) : ramIndex a < Config.ramSize := Nat.mod_lt _ (by decide)

@[simp] theorem ppuWrite_cpu (s : State) (a : PpuAddr) (v : Byte) : (ppuWrite s a v).cpu = s.cpu := by
  unfold ppuWrite; repeat' split
  all_goals rfl

/-! ### Independence of the CPU registers -/

@[simp] theorem ppuRead_withCpu (s : State) (c : Cpu) (a : PpuAddr) : ppuRead (s.withCpu c) a = ppuRead s a := rfl

@[simp] theorem consoleTryRead_withCpu (s : State) (c : Cpu) (a : Word) :
    consoleTryRead (s.withCpu c) a = consoleTryRead s a := rfl

@[simp] theorem tryRead_withCpu (s : State) (c : Cpu) (a : Word) : tryRead (s.withCpu c) a = tryRead s a := rfl

@[simp] theorem peek_withCpu (s : State) (c : Cpu) (a : Word) : peek (s.withCpu c) a = peek s a := rfl

@[simp] theorem peek_jumpTo (s : State) (b a : Word) : peek (jumpTo s b) a = peek s a := rfl

@[simp] theorem peek_setWait (s : State) (n : Nat) (a : Word) : peek (setWait s n) a = peek s a := rfl

theorem consoleReadEffects_withCpu (s : State) (c : Cpu) (a : Word) :
    consoleReadEffects (s.withCpu c) a = (consoleReadEffects s a).withCpu c := by
  unfold consoleReadEffects portReadEffects
  simp only [withCpu_ppu, withCpu_apu, withCpu_pad0, withCpu_pad1]
  repeat' split
  all_goals rfl

@[simp] theorem readEffects_withCpu (s : State) (c : Cpu) (a : Word) :
    readEffects (s.withCpu c) a = (readEffects s a).withCpu c := by
  unfold readEffects
  by_cases h : (s.cart.cpuTryRead a).isSome = true
  · simp only [withCpu_cart, h, if_true]
    rfl
  · simp only [withCpu_cart, h]
    exact consoleReadEffects_withCpu s c a

theorem ppuWrite_withCpu (s : State) (c : Cpu) (a : PpuAddr) (v : Byte) :
    ppuWrite (s.withCpu c) a v = (ppuWrite s a v).withCpu c := by
  unfold ppuWrite
  simp only [withCpu_cart, withCpu_cfg, withCpu_ppu]
  repeat' split
  all_goals rfl

theorem consoleWrite_withCpu (s : State) (c : Cpu) (a : Word) (v : Byte) :
    consoleWrite (s.withCpu c) a v = (consoleWrite s a v).withCpu c := by
  have hport : ∀ port, portWrite (s.withCpu c) port v = (portWrite s port v).withCpu c := by
    intro port
    unfold portWrite
    simp only [withCpu_ppu, ppuWrite_withCpu]
    split <;> rfl
  unfold consoleWrite
  rw [hport]
  simp only [apply_ite (fun t : State => t.withCpu c)]
  generalize a.toNat - 0x4000 = r
  rfl

@[simp] theorem memWrite_withCpu (s : State) (c : Cpu) (a : Word) (v : Byte) :
    memWrite (s.withCpu c) a v = (memWrite s a v).withCpu c := by
  unfold memWrite
  simp only [withCpu_cart]
  split
  · rfl
  · exact consoleWrite_withCpu s c a v

@[simp] theorem readEffects_cpu (s : State) (a : Word) : (readEffects s a).cpu = s.cpu := by
  have h := congrArg State.cpu (readEffects_withCpu s s.cpu a)
  simpa using h

@[simp] theorem memWrite_cpu (s : State) (a : Word) (v : Byte) : (memWrite s a v).cpu = s.cpu := by
  have h := congrArg State.cpu (memWrite_withCpu s s.cpu a v)
  simpa using h

@[simp] theorem memRead_fst (s : State) (a : Word) : (memRead s a).1 = peek s a := rfl

@[simp] theorem memRead_snd (s : State) (a : Word) : (memRead s a).2 = readEffects s a := rfl

/-! ### What a read's side effects can change -/

/-- The side effects of a read (rule R83): the cartridge's own, the status port, the data port, the APU status
register, a controller; otherwise none. -/
theorem readEffects_cases (s : State) (a : Word) :
    (∃ v, s.cart.cpuTryRead a = some v ∧ readEffects s a = { s with cart := s.cart.readEffects a }) ∨
    (s.cart.cpuTryRead a = none ∧
      ((0x2000 ≤ a.toNat ∧ a.toNat < 0x4000 ∧ (a.toNat % 8 = 2 ∨ a.toNat % 8 = 7) ∧
          readEffects s a = portReadEffects s (a.toNat % 8)) ∨
       (a.toNat = 0x4015 ∧ readEffects s a = { s with apu := s.apu.afterStatusRead }) ∨
       (a.toNat = 0x4016 ∧ readEffects s a = { s with pad0 := s.pad0.afterRead }) ∨
       (a.toNat = 0x4017 ∧ readEffects s a = { s with pad1 := s.pad1.afterRead }) ∨
       ((a.toNat < 0x2000 ∨ (0x2000 ≤ a.toNat ∧ a.toNat < 0x4000 ∧ a.toNat % 8 ≠ 2 ∧ a.toNat % 8 ≠ 7) ∨
          (0x4000 ≤ a.toNat ∧ a.toNat < 0x4015) ∨ 0x4017 < a.toNat) ∧ readEffects s a = s))) := by
  unfold readEffects
  cases hc : s.cart.cpuTryRead a with
  | some v => exact .inl ⟨v, rfl, by simp⟩
  | none =>
    refine .inr ⟨rfl, ?_⟩
    simp only [Option.isSome_none, Bool.false_eq_true, if_false]
    unfold consoleReadEffects
    by_cases h1 : a.toNat < 0x2000
    · exact .inr (.inr (.inr (.inr ⟨.inl h1, by simp [h1]⟩)))
    by_cases h2 : a.toNat < 0x4000
    · by_cases h3 : a.toNat % 8 = 2 ∨ a.toNat % 8 = 7
      · exact .inl ⟨by omega, h2, h3, by simp [h1, h2]⟩
      · refine .inr (.inr (.inr (.inr ⟨.inr (.inl (by omega)), ?_⟩)))
        simp only [h1, h2, if_true, if_false]
        unfold portReadEffects
        split
        · omega
        · omega
        · rfl
    by_cases h4 : a.toNat = 0x4015
    · exact .inr (.inl ⟨h4, by simp [h4]⟩)
    by_cases h5 : a.toNat = 0x4016
    · exact .inr (.inr (.inl ⟨h5, by simp [h5]⟩))
    by_cases h6 : a.toNat = 0x4017
    · exact .inr (.inr (.inr (.inl ⟨h6, by simp [h6]⟩)))
    · exact .inr (.inr (.inr (.inr ⟨by omega, by simp [h1, h2, h4, h5, h6]⟩)))

/-- Neither side effect of the PPU ports touches a memory or anything outside the PPU. -/
theorem portReadEffects_ppu (s : State) (port : Nat) :
    ∃ p : Ppu, portReadEffects s port = { s with ppu := p } ∧ p.oam = s.ppu.oam ∧
      p.nametable = s.ppu.nametable ∧ p.palette = s.ppu.palette := by
  unfold portReadEffects
  split
  · exact ⟨_, rfl, rfl, rfl, rfl⟩
  · exact ⟨_, rfl, rfl, rfl, rfl⟩
  · exact ⟨s.ppu, rfl, rfl, rfl, rfl⟩

/-- What no read changes. -/
structure ReadFrame (s t : State) : Prop where
  ram : t.ram = s.ram
  dma : t.dma = s.dma
  oam : t.ppu.oam = s.ppu.oam
  nametable : t.ppu.nametable = s.ppu.nametable
  palette : t.ppu.palette = s.ppu.palette
  master : t.master = s.master
  cyc : t.cyc = s.cyc
  cfg : t.cfg = s.cfg
  pixel : t.pixel = s.pixel
  sound : t.sound = s.sound

theorem ReadFrame.refl (s : State) : ReadFrame s s := ⟨rfl, rfl, rfl, rfl, rfl, rfl, rfl, rfl, rfl, rfl⟩

theorem ReadFrame.trans {s t u : State} (h : ReadFrame s t) (k : ReadFrame t u) : ReadFrame s u :=
  ⟨k.ram.trans h.ram, k.dma.trans h.dma, k.oam.trans h.oam, k.nametable.trans h.nametable,
    k.palette.trans h.palette, k.master.trans h.master, k.cyc.trans h.cyc, k.cfg.trans h.cfg,
    k.pixel.trans h.pixel, k.sound.trans h.sound⟩

theorem ReadFrame.withCpu {s t : State} (h : ReadFrame s t) (c : Cpu) : ReadFrame s (t.withCpu c) :=
  ⟨h.ram, h.dma, h.oam, h.nametable, h.palette, h.master, h.cyc, h.cfg, h.pixel, h.sound⟩

theorem readEffects_frame (s : State) (a : Word) : ReadFrame s (readEffects s a) := by
  rcases readEffects_cases s a with ⟨v, -, h⟩ | ⟨-, ⟨-, -, -, h⟩ | ⟨-, h⟩ | ⟨-, h⟩ | ⟨-, h⟩ | ⟨-, h⟩⟩ <;> rw [h]
  · exact ⟨rfl, rfl, rfl, rfl, rfl, rfl, rfl, rfl, rfl, rfl⟩
  · obtain ⟨p, hp, ho, hn, hl⟩ := portReadEffects_ppu s (a.toNat % 8)
    rw [hp]
    exact ⟨rfl, rfl, ho, hn, hl, rfl, rfl, rfl, rfl, rfl⟩
  · exact ⟨rfl, rfl, rfl, rfl, rfl, rfl, rfl, rfl, rfl, rfl⟩
  · exact ⟨rfl, rfl, rfl, rfl, rfl, rfl, rfl, rfl, rfl, rfl⟩
  · exact ⟨rfl, rfl, rfl, rfl, rfl, rfl, rfl, rfl, rfl, rfl⟩
  · exact ReadFrame.refl s

/-! ### What a write can change -/

/-- What no CPU write changes. -/
structure WriteFrame (s t : State) : Prop where
  master : t.master = s.master
  cyc : t.cyc = s.cyc
  cfg : t.cfg = s.cfg
  pixel : t.pixel = s.pixel
  sound : t.sound = s.sound

theorem memWrite_frame (s : State) (a : Word) (v : Byte) : WriteFrame s (memWrite s a v) := by
  unfold memWrite
  split
  · exact ⟨rfl, rfl, rfl, rfl, rfl⟩
  · have hport : ∀ port, WriteFrame s (portWrite s port v) := by
      intro port
      unfold portWrite
      split
      case h_7 =>
        rcases ppuWrite_cases s (vramBusAddr s.ppu) v with ⟨c, -, h⟩ | ⟨-, ⟨-, h⟩ | ⟨-, -, h⟩ | ⟨-, h⟩⟩ <;>
          rw [h] <;> exact ⟨rfl, rfl, rfl, rfl, rfl⟩
      all_goals exact ⟨rfl, rfl, rfl, rfl, rfl⟩
    unfold consoleWrite
    repeat' split
    all_goals first
      | exact hport _
      | exact ⟨rfl, rfl, rfl, rfl, rfl⟩

end Sys2Proof.Machine
end

