-- ==== Sys2Proof/Laws/Operands.lean ====
section
/-! SUPPORT. What resolving an operand, each instruction shape and each stack operation leave: equations that
name the CPU registers and the bus accesses, so that a proof about an instruction unfolds neither. -/

namespace Sys2Proof.Machine

/-! ### Resolving and reading -/

@[simp] theorem readEffects_setWait (s : State) (n : Nat) (a : Word) :
    readEffects (setWait s n) a = setWait (readEffects s a) n := by simp [setWait]

@[simp] theorem zeroPagePointer_withCpu (s : State) (c : Cpu) (z : Byte) :
    zeroPagePointer (s.withCpu c) z = ((zeroPagePointer s z).1, (zeroPagePointer s z).2.withCpu c) := by
  simp [zeroPagePointer]

@[simp] theorem zeroPagePointer_cpu (s : State) (z : Byte) : (zeroPagePointer s z).2.cpu = s.cpu := by
  simp [zeroPagePointer]

/-- Resolving does not depend on the countdown and keeps the CPU. -/
theorem resolve_setWait (o : Operand) (s : State) (n : Nat) :
    resolve o (setWait s n) =
      ⟨(resolve o s).ea, (resolve o s).crossed, setWait (resolve o s).st n⟩ := by
  cases o <;> simp [resolve, indexed, setWait]

@[simp] theorem resolve_cpu (o : Operand) (s : State) : (resolve o s).st.cpu = s.cpu := by
  cases o <;> simp [resolve, indexed]

theorem zeroPagePointer_frame (s : State) (z : Byte) : ReadFrame s (zeroPagePointer s z).2 :=
  (readEffects_frame s _).trans (readEffects_frame _ _)

/-- Resolving only reads. -/
theorem resolve_frame (o : Operand) (s : State) : ReadFrame s (resolve o s).st := by
  cases o with
  | izx d => exact zeroPagePointer_frame s _
  | izy d => exact zeroPagePointer_frame s _
  | _ => exact ReadFrame.refl s

@[simp] theorem operandRead_cpu (o : Operand) (r : Resolved) : (operandRead o r).2.cpu = r.st.cpu := by
  cases o <;> simp [operandRead]

theorem operandRead_frame (o : Operand) (r : Resolved) : ReadFrame r.st (operandRead o r).2 := by
  cases o with
  | imm d => exact ReadFrame.refl _
  | _ => exact readEffects_frame _ _

theorem operandRead_setWait (o : Operand) (r : Resolved) (n : Nat) :
    operandRead o { r with st := setWait r.st n } =
      ((operandRead o r).1, setWait (operandRead o r).2 n) := by
  cases o <;> simp [operandRead, Prod.ext_iff]

/-- The cycles a read form charges: the base, and one more on a page crossing where the row says so. -/
def chargedWait (base : Nat) (pen : Bool) (o : Operand) (s : State) : Nat :=
  base - 1 + if pen && (resolve o s).crossed then 1 else 0

theorem resolveCharged_eq (base : Nat) (pen : Bool) (o : Operand) (s : State) :
    resolveCharged base pen o s =
      { resolve o s with st := setWait (resolve o s).st (chargedWait base pen o s) } := by
  unfold resolveCharged chargedWait
  rw [resolve_setWait]
  by_cases h : (pen && (resolve o s).crossed) = true
  · simp [h, addWait, setWait]
  · simp [h]

/-! ### The instruction shapes -/

/-- An implied form: registers and flags only. -/
theorem runImplied_eq (base : Nat) (f : Cpu → Cpu) (s : State) :
    runImplied base f s = s.withCpu (f { s.cpu with waitCycles := base - 1 }) := rfl

/-- An accumulator form. -/
theorem runAcc_eq (base : Nat) (f : Byte → Cpu → Byte × Cpu) (s : State) :
    runAcc base f s =
      s.withCpu ((f s.cpu.a { s.cpu with waitCycles := base - 1 }).2.loadA
        (f s.cpu.a { s.cpu with waitCycles := base - 1 }).1) := rfl

/-- A read form: the byte read, and the registers computed from it. -/
theorem runRead_eq (base : Nat) (pen : Bool) (o : Operand) (f : Byte → Cpu → Cpu) (s : State) :
    runRead base pen o f s =
      (operandRead o (resolve o s)).2.withCpu
        (f (operandRead o (resolve o s)).1 { s.cpu with waitCycles := chargedWait base pen o s }) := by
  unfold runRead
  rw [resolveCharged_eq, operandRead_setWait]
  simp [setWait]

/-- A write form: the byte written and where. -/
theorem runWrite_eq (base : Nat) (o : Operand) (val : Cpu → Byte) (s : State) :
    runWrite base o val s =
      (memWrite (resolve o s).st (resolve o s).ea (val { s.cpu with waitCycles := base - 1 })).withCpu
        { s.cpu with waitCycles := base - 1 } := by
  unfold runWrite
  rw [resolveCharged_eq]
  simp [setWait, chargedWait]

/-- A read-modify-write form: one read and one write of the effective address. -/
theorem runRmw_eq (base : Nat) (o : Operand) (f : Byte → Cpu → Byte × Cpu) (g : Byte → Cpu → Cpu) (s : State) :
    runRmw base o f g s =
      (memWrite (readEffects (resolve o s).st (resolve o s).ea) (resolve o s).ea
          (f (peek (resolve o s).st (resolve o s).ea) { s.cpu with waitCycles := base - 1 }).1).withCpu
        (g (f (peek (resolve o s).st (resolve o s).ea) { s.cpu with waitCycles := base - 1 }).1
          (f (peek (resolve o s).st (resolve o s).ea) { s.cpu with waitCycles := base - 1 }).2) := by
  unfold runRmw
  rw [resolveCharged_eq]
  simp [setWait, chargedWait]

/-- A branch moves `PC` and the countdown only. -/
theorem runBranch_eq (base : Nat) (hbase : 0 < base) (d : Byte) (cond : Cpu → Bool) (s : State) :
    runBranch base d cond s =
      s.withCpu
        (if cond { s.cpu with waitCycles := base - 1 } then
          { s.cpu with
            pc := branchTarget s d
            waitCycles := base + if page (branchTarget s d) != page s.cpu.pc then 1 else 0 }
        else { s.cpu with waitCycles := base - 1 }) := by
  have hsum : base - 1 + 1 = base := by omega
  unfold runBranch
  by_cases hc : cond { s.cpu with waitCycles := base - 1 } = true
  · by_cases hp : (page (branchTarget s d) != page s.cpu.pc) = true
    · simp_all [setWait, addWait, jumpTo, branchTarget]
    · simp_all [setWait, addWait, jumpTo, branchTarget]
  · simp_all [setWait, State.withCpu]

/-! ### The stack -/

theorem sub_one_one (v : Byte) : v - 1#8 - 1#8 = v - 2#8 := by rw [BitVec.sub_sub]; rfl

theorem sub_two_one (v : Byte) : v - 2#8 - 1#8 = v - 3#8 := by rw [BitVec.sub_sub]; rfl

theorem add_one_one (v : Byte) : v + 1#8 + 1#8 = v + 2#8 := by rw [BitVec.add_assoc]; rfl

/-- The status byte does not depend on the stack pointer. -/
theorem pbyte_withS (c : Cpu) (v : Byte) (b : Bool) : ({ c with s := v } : Cpu).pbyte b = c.pbyte b := rfl

/-- A push: one write, then `S` one lower. -/
theorem push_eq (s : State) (v : Byte) :
    push s v = (memWrite s (stackAddr s.cpu.s) v).withCpu { s.cpu with s := s.cpu.s - 1 } := by
  simp [push]

/-- A pull: `S` one higher, then one read. -/
theorem pop_eq (s : State) :
    pop s = (peek s (stackAddr (s.cpu.s + 1)),
      (readEffects s (stackAddr (s.cpu.s + 1))).withCpu { s.cpu with s := s.cpu.s + 1 }) := by
  simp [pop, memRead]

@[simp] theorem push_cpu (s : State) (v : Byte) : (push s v).cpu = { s.cpu with s := s.cpu.s - 1 } := by
  simp [push_eq]

@[simp] theorem pop_snd_cpu (s : State) : (pop s).2.cpu = { s.cpu with s := s.cpu.s + 1 } := by
  simp [pop_eq]

/-- A 16-bit push: the high byte at `S`, the low byte one below. -/
theorem push16_eq (s : State) (w : Word) :
    push16 s w =
      (memWrite (memWrite s (stackAddr s.cpu.s) (highByte w)) (stackAddr (s.cpu.s - 1)) (lowByte w)).withCpu
        { s.cpu with s := s.cpu.s - 2 } := by
  simp [push16, push_eq, sub_one_one]

@[simp] theorem push16_cpu (s : State) (w : Word) : (push16 s w).cpu = { s.cpu with s := s.cpu.s - 2 } := by
  simp [push16_eq]

/-- A 16-bit pull: the low byte first. -/
theorem pop16_eq (s : State) :
    pop16 s =
      (hilo (peek (readEffects s (stackAddr (s.cpu.s + 1))) (stackAddr (s.cpu.s + 2)))
          (peek s (stackAddr (s.cpu.s + 1))),
        (readEffects (readEffects s (stackAddr (s.cpu.s + 1))) (stackAddr (s.cpu.s + 2))).withCpu
          { s.cpu with s := s.cpu.s + 2 }) := by
  simp [pop16, pop_eq, add_one_one]

@[simp] theorem pop16_snd_cpu (s : State) : (pop16 s).2.cpu = { s.cpu with s := s.cpu.s + 2 } := by
  simp [pop16_eq]

/-- A vector read: the low byte, then the high byte. -/
theorem memRead16_eq (s : State) (a : Word) :
    memRead16 s a = (hilo (peek (readEffects s a) (a + 1)) (peek s a), readEffects (readEffects s a) (a + 1)) :=
  rfl

@[simp] theorem memRead16_snd_cpu (s : State) (a : Word) : (memRead16 s a).2.cpu = s.cpu := by
  simp [memRead16_eq]

@[simp] theorem peek_withS (s : State) (c : Cpu) (a : Word) : peek { s with cpu := c } a = peek s a := rfl

/-- What NMI, IRQ and BRK share, in one equation: three pushes, then the vector. -/
theorem enterHandler_eq (s : State) (ret : Word) (b : Bool) (vector : Word) :
    enterHandler s ret b vector =
      let t := memWrite
        (memWrite (memWrite s (stackAddr s.cpu.s) (highByte ret)) (stackAddr (s.cpu.s - 1)) (lowByte ret))
        (stackAddr (s.cpu.s - 2)) (s.cpu.pbyte b)
      (readEffects (readEffects t vector) (vector + 1)).withCpu
        { s.cpu with
          s := s.cpu.s - 3
          i := true
          pc := hilo (peek (readEffects t vector) (vector + 1)) (peek t vector) } := by
  have hp := pbyte_withS s.cpu (s.cpu.s - 2#8) b
  simp [enterHandler, push16_eq, push_eq, memRead16_eq, jumpTo, sub_two_one, hp]

@[simp] theorem fetchByte_fst (s : State) : (fetchByte s).1 = peek s s.cpu.pc := rfl

/-- One `Fetch()`: a read, then `PC` one higher. -/
theorem fetchByte_snd (s : State) :
    (fetchByte s).2 = (readEffects s s.cpu.pc).withCpu { s.cpu with pc := s.cpu.pc + 1 } := by
  simp [fetchByte, jumpTo]

end Sys2Proof.Machine
end

