-- ==== Sys2Proof/Laws/Exec.lean ====
section
/-! SUPPORT. What executing an instruction can do: it always answers a next state, it reaches it by CPU-register
updates, bus reads and bus writes only, and what it does to the CPU registers that no instruction writes. -/

namespace Sys2Proof.Machine

/-- Every instruction answers a next state. -/
theorem exec_next (i : Instr) (s : State) : ∃ t, exec i s = .next t := by
  cases i <;> exact ⟨_, rfl⟩

/-- A property of states that CPU-register updates, bus reads and bus writes keep. -/
structure BusClosed (P : State → Prop) : Prop where
  cpu : ∀ s c, P s → P (s.withCpu c)
  read : ∀ s a, P s → P (readEffects s a)
  write : ∀ s a v, P s → P (memWrite s a v)

namespace BusClosed

variable {P : State → Prop} (hP : BusClosed P) {s : State}

include hP

theorem resolve (o : Operand) (hs : P s) : P (resolve o s).st := by
  cases o with
  | izx d => exact hP.read _ _ (hP.read _ _ hs)
  | izy d => exact hP.read _ _ (hP.read _ _ hs)
  | _ => exact hs

theorem operandRead (o : Operand) {r : Resolved} (hr : P r.st) : P (operandRead o r).2 := by
  cases o with
  | imm d => exact hr
  | _ => exact hP.read _ _ hr

theorem runRead (base : Nat) (pen : Bool) (o : Operand) (f : Byte → Cpu → Cpu) (hs : P s) :
    P (runRead base pen o f s) := by
  rw [runRead_eq]
  exact hP.cpu _ _ (hP.operandRead o (hP.resolve o hs))

theorem runWrite (base : Nat) (o : Operand) (val : Cpu → Byte) (hs : P s) : P (runWrite base o val s) := by
  rw [runWrite_eq]
  exact hP.cpu _ _ (hP.write _ _ _ (hP.resolve o hs))

theorem runRmw (base : Nat) (o : Operand) (f : Byte → Cpu → Byte × Cpu) (g : Byte → Cpu → Cpu) (hs : P s) :
    P (runRmw base o f g s) := by
  rw [runRmw_eq]
  exact hP.cpu _ _ (hP.write _ _ _ (hP.read _ _ (hP.resolve o hs)))

theorem push (v : Byte) (hs : P s) : P (push s v) := by
  rw [push_eq]
  exact hP.cpu _ _ (hP.write _ _ _ hs)

theorem pop (hs : P s) : P (pop s).2 := by
  rw [pop_eq]
  exact hP.cpu _ _ (hP.read _ _ hs)

theorem push16 (w : Word) (hs : P s) : P (push16 s w) := hP.push _ (hP.push _ hs)

theorem pop16 (hs : P s) : P (pop16 s).2 := hP.pop (hP.pop hs)

theorem memRead16 (a : Word) (hs : P s) : P (memRead16 s a).2 := hP.read _ _ (hP.read _ _ hs)

theorem enterHandler (ret : Word) (b : Bool) (vector : Word) (hs : P s) : P (enterHandler s ret b vector) :=
  hP.cpu _ _ (hP.memRead16 _ (hP.cpu _ _ (hP.push _ (hP.push16 _ hs))))

theorem interruptReturn (hs : P s) : P (interruptReturn s) :=
  hP.cpu _ _ (hP.pop16 (hP.cpu _ _ (hP.pop hs)))

theorem indirectTarget (ptr : Word) (hs : P s) : P (indirectTarget s ptr).2 := hP.read _ _ (hP.read _ _ hs)

theorem runBranch (base : Nat) (d : Byte) (cond : Cpu → Bool) (hs : P s) : P (runBranch base d cond s) := by
  unfold Machine.runBranch
  have h1 : P (setWait s (base - 1)) := hP.cpu _ _ hs
  dsimp only
  split
  · split
    · exact hP.cpu _ _ (hP.cpu _ _ (hP.cpu _ _ h1))
    · exact hP.cpu _ _ (hP.cpu _ _ h1)
  · exact h1

/-- Executing an instruction keeps a property that the three kinds of access keep. -/
theorem exec {i : Instr} {t : State} (h : exec i s = .next t) (hs : P s) : P t := by
  suffices hk : ∃ u, Machine.exec i s = .next u ∧ P u by
    obtain ⟨u, hu, hPu⟩ := hk
    rw [h] at hu
    cases hu
    exact hPu
  have hw : ∀ n, P (setWait s n) := fun n => hP.cpu _ _ hs
  cases i
  case brk => exact ⟨_, rfl, hP.enterHandler _ _ _ (hw 6)⟩
  case rti => exact ⟨_, rfl, hP.interruptReturn (hw 5)⟩
  case jsr => exact ⟨_, rfl, hP.cpu _ _ (hP.push16 _ (hw 5))⟩
  case rts => exact ⟨_, rfl, hP.cpu _ _ (hP.pop16 (hw 5))⟩
  case jmpAbs => exact ⟨_, rfl, hP.cpu _ _ (hw 2)⟩
  case jmpInd => exact ⟨_, rfl, hP.cpu _ _ (hP.indirectTarget _ (hw 4))⟩
  case pha => exact ⟨_, rfl, hP.push _ (hw 2)⟩
  case php => exact ⟨_, rfl, hP.push _ (hw 2)⟩
  case pla => exact ⟨_, rfl, hP.cpu _ _ (hP.pop (hw 3))⟩
  case plp => exact ⟨_, rfl, hP.cpu _ _ (hP.pop (hw 3))⟩
  all_goals first
    | exact ⟨_, rfl, hP.runRead _ _ _ _ hs⟩
    | exact ⟨_, rfl, hP.runWrite _ _ _ hs⟩
    | exact ⟨_, rfl, hP.runRmw _ _ _ _ hs⟩
    | exact ⟨_, rfl, hP.runBranch _ _ _ hs⟩
    | exact ⟨_, rfl, hP.cpu _ _ (hw _)⟩

end BusClosed

/-! ### The CPU fields that no instruction writes -/

/-- What executing keeps of the CPU, whatever the instruction: the stored break flag and the two latches; and
the countdown it leaves is at most 7. -/
structure CpuFrame (c d : Cpu) : Prop where
  breakFlag : d.b = c.b
  nmiLatch : d.nmiLatch = c.nmiLatch
  irqLatch : d.irqLatch = c.irqLatch
  waitLe : d.waitCycles ≤ 7

/-- A register function that leaves the break flag, the latches and the countdown alone. -/
def KeepsControl (f : Cpu → Cpu) : Prop :=
  ∀ c, (f c).b = c.b ∧ (f c).nmiLatch = c.nmiLatch ∧ (f c).irqLatch = c.irqLatch ∧
    (f c).waitCycles = c.waitCycles

theorem KeepsControl.frame {f : Cpu → Cpu} (hf : KeepsControl f) (c : Cpu) {n : Nat} (hn : n ≤ 7) :
    CpuFrame c (f { c with waitCycles := n }) := by
  obtain ⟨h1, h2, h3, h4⟩ := hf { c with waitCycles := n }
  exact ⟨h1, h2, h3, h4.le.trans hn⟩

theorem chargedWait_le (base : Nat) (pen : Bool) (o : Operand) (s : State) :
    chargedWait base pen o s ≤ base - 1 + 1 := by
  unfold chargedWait
  split <;> omega

theorem runRead_cpuFrame {base : Nat} (hb : base - 1 + 1 ≤ 7) (pen : Bool) (o : Operand) {f : Byte → Cpu → Cpu}
    (hf : ∀ m, KeepsControl (f m)) (s : State) : CpuFrame s.cpu (runRead base pen o f s).cpu := by
  rw [runRead_eq]
  exact (hf _).frame _ ((chargedWait_le _ _ _ _).trans hb)

theorem runWrite_cpuFrame {base : Nat} (hb : base - 1 ≤ 7) (o : Operand) (val : Cpu → Byte) (s : State) :
    CpuFrame s.cpu (runWrite base o val s).cpu := by
  rw [runWrite_eq]
  exact ⟨rfl, rfl, rfl, hb⟩

theorem runRmw_cpuFrame {base : Nat} (hb : base - 1 ≤ 7) (o : Operand) {f : Byte → Cpu → Byte × Cpu}
    {g : Byte → Cpu → Cpu} (hf : ∀ m, KeepsControl fun c => (f m c).2) (hg : ∀ r, KeepsControl (g r))
    (s : State) : CpuFrame s.cpu (runRmw base o f g s).cpu := by
  rw [runRmw_eq]
  obtain ⟨f1, f2, f3, f4⟩ := hf (peek (resolve o s).st (resolve o s).ea) { s.cpu with waitCycles := base - 1 }
  obtain ⟨g1, g2, g3, g4⟩ := hg (f (peek (resolve o s).st (resolve o s).ea)
      { s.cpu with waitCycles := base - 1 }).1 (f (peek (resolve o s).st (resolve o s).ea)
      { s.cpu with waitCycles := base - 1 }).2
  exact ⟨g1.trans f1, g2.trans f2, g3.trans f3, (g4.trans f4).le.trans hb⟩

/-- Executing an instruction leaves the break flag and the latches, and a countdown of at most 7. -/
theorem exec_cpuFrame {i : Instr} {s t : State} (h : exec i s = .next t) : CpuFrame s.cpu t.cpu := by
  suffices hk : ∃ u, exec i s = .next u ∧ CpuFrame s.cpu u.cpu by
    obtain ⟨u, hu, hPu⟩ := hk
    rw [h] at hu
    cases hu
    exact hPu
  cases i
  case brk => exact ⟨_, rfl, by rw [enterHandler_eq]; exact ⟨rfl, rfl, rfl, (by decide : 6 ≤ 7)⟩⟩
  case rti =>
    refine ⟨_, rfl, ?_⟩
    simp only [interruptReturn, pop16_eq, pop_eq]
    exact ⟨rfl, rfl, rfl, (by decide : 5 ≤ 7)⟩
  case jsr => exact ⟨_, rfl, by simp only [push16_eq]; exact ⟨rfl, rfl, rfl, (by decide : 5 ≤ 7)⟩⟩
  case rts => exact ⟨_, rfl, by simp only [pop16_eq]; exact ⟨rfl, rfl, rfl, (by decide : 5 ≤ 7)⟩⟩
  case jmpAbs => exact ⟨_, rfl, ⟨rfl, rfl, rfl, (by decide : 2 ≤ 7)⟩⟩
  case jmpInd =>
    refine ⟨_, rfl, ?_⟩
    simp only [indirectTarget, memRead_snd]
    exact ⟨by simp, by simp, by simp, by simp⟩
  case pha => exact ⟨_, rfl, by simp only [push_eq]; exact ⟨rfl, rfl, rfl, (by decide : 2 ≤ 7)⟩⟩
  case php => exact ⟨_, rfl, by simp only [push_eq]; exact ⟨rfl, rfl, rfl, (by decide : 2 ≤ 7)⟩⟩
  case pla => exact ⟨_, rfl, by simp only [pop_eq]; exact ⟨rfl, rfl, rfl, (by decide : 3 ≤ 7)⟩⟩
  case plp => exact ⟨_, rfl, by simp only [pop_eq]; exact ⟨rfl, rfl, rfl, (by decide : 3 ≤ 7)⟩⟩
  all_goals refine ⟨_, rfl, ?_⟩
  all_goals first
    | (refine runRead_cpuFrame ?_ _ _ ?_ s
       · decide
       · exact fun _ _ => ⟨rfl, rfl, rfl, rfl⟩)
    | (refine runWrite_cpuFrame ?_ _ _ s
       decide)
    | (refine runRmw_cpuFrame ?_ _ ?_ ?_ s
       · decide
       · exact fun _ _ => ⟨rfl, rfl, rfl, rfl⟩
       · exact fun _ _ => ⟨rfl, rfl, rfl, rfl⟩)
    | exact ⟨rfl, rfl, rfl, (by decide : 1 ≤ 7)⟩
    | (rw [runBranch_eq 2 (by decide)]
       dsimp only [withCpu_cpu]
       split
       · refine ⟨rfl, rfl, rfl, ?_⟩
         dsimp only
         split <;> omega
       · exact ⟨rfl, rfl, rfl, (by decide : 1 ≤ 7)⟩)

end Sys2Proof.Machine
end

