-- ==== Sys2Proof/Laws/Mem.lean ====
section
/-! SUPPORT. The laws of byte memories: a read after a write, the canonical form kept, and equal contents in
canonical form are equal data. -/

namespace Sys2Proof.Machine

/-- The form of `wfCells` on a non-empty list. -/
theorem wfCells_cons {u : Nat → Byte} {size lo : Nat} {c : Host.Cell} {rest : List Host.Cell} :
    wfCells u size lo (c :: rest) = true ↔
      lo ≤ c.1 ∧ c.1 < size ∧ c.2 ≠ u c.1 ∧ wfCells u size (c.1 + 1) rest = true := by
  simp [wfCells, and_assoc]

/-- A lower bound may be weakened. -/
theorem wfCells_mono {u : Nat → Byte} {size lo lo' : Nat} {cs : List Host.Cell} (h : wfCells u size lo cs = true) (hle : lo' ≤ lo) :
    wfCells u size lo' cs = true := by
  cases cs with
  | nil => rfl
  | cons c rest =>
    rw [wfCells_cons] at h ⊢
    exact ⟨hle.trans h.1, h.2⟩

/-- An address below all cells is unlisted. -/
theorem readCells_below {u : Nat → Byte} {size lo b : Nat} {cs : List Host.Cell} (h : wfCells u size lo cs = true) (hb : b < lo) :
    readCells u b cs = u b := by
  induction cs generalizing lo with
  | nil => rfl
  | cons c rest ih =>
    rw [wfCells_cons] at h
    have hne : c.1 ≠ b := by omega
    simpa [readCells, hne] using ih h.2.2.2 (by omega)

/-- A read after a write, on cells in canonical form. -/
theorem readCells_writeCells {u : Nat → Byte} {size lo : Nat} {cs : List Host.Cell} (a b : Nat) (v : Byte)
    (h : wfCells u size lo cs = true) :
    readCells u b (writeCells u a v cs) = if b = a then v else readCells u b cs := by
  induction cs generalizing lo with
  | nil =>
    by_cases hv : v = u a <;> by_cases hb : b = a <;> simp [writeCells, readCells, hv, hb, eq_comm]
    exact fun hab => absurd hab.symm hb
  | cons c rest ih =>
    have h' := h
    rw [wfCells_cons] at h'
    obtain ⟨-, -, -, hrest⟩ := h'
    by_cases hlt : a < c.1
    · by_cases hv : v = u a
      · by_cases hb : b = a
        · subst hb
          have hbelow := readCells_below (wfCells_mono (wfCells_cons.2 ⟨le_refl c.1, (wfCells_cons.1 h).2⟩)
            (le_refl _)) hlt
          simp [writeCells, hlt, hv, hbelow]
        · simp [writeCells, hlt, hv, hb]
      · by_cases hb : b = a
        · simp [writeCells, readCells, hlt, hv, hb]
        · simp [writeCells, readCells, hlt, hv, hb, Ne.symm hb]
    · by_cases heq : a = c.1
      · subst heq
        by_cases hb : b = c.1
        · subst hb
          by_cases hv : v = u c.1
          · simpa [writeCells, hv] using readCells_below hrest (Nat.lt_succ_self c.1)
          · simp [writeCells, readCells, hv]
        · by_cases hv : v = u c.1 <;> simp [writeCells, readCells, hv, hb, Ne.symm hb]
      · have hwrite : writeCells u a v (c :: rest) = c :: writeCells u a v rest := by
          simp [writeCells, hlt, heq]
        rw [hwrite]
        by_cases hcb : c.1 = b
        · have hba : b ≠ a := by omega
          simp [readCells, hcb, hba]
        · simpa [readCells, hcb] using ih hrest

/-- A write inside the bounds keeps the canonical form. -/
theorem wfCells_writeCells {u : Nat → Byte} {size lo : Nat} {cs : List Host.Cell} (a : Nat) (v : Byte)
    (h : wfCells u size lo cs = true) (hlo : lo ≤ a) (ha : a < size) :
    wfCells u size lo (writeCells u a v cs) = true := by
  induction cs generalizing lo with
  | nil => by_cases hv : v = u a <;> simp [writeCells, wfCells, hv, hlo, ha]
  | cons c rest ih =>
    have h' := h
    rw [wfCells_cons] at h'
    obtain ⟨hc, hs, hne, hrest⟩ := h'
    by_cases hlt : a < c.1
    · by_cases hv : v = u a
      · simpa [writeCells, hlt, hv] using h
      · simp only [writeCells, hlt, hv, if_true, if_false]
        exact wfCells_cons.2 ⟨hlo, ha, hv, wfCells_cons.2 ⟨by omega, hs, hne, hrest⟩⟩
    · by_cases heq : a = c.1
      · subst heq
        by_cases hv : v = u c.1
        · simpa [writeCells, hv] using wfCells_mono hrest (by omega)
        · simp only [writeCells, hv, if_true, if_false, lt_irrefl]
          exact wfCells_cons.2 ⟨hc, hs, hv, hrest⟩
      · simp only [writeCells, hlt, heq, if_false]
        exact wfCells_cons.2 ⟨hc, hs, hne, ih hrest (by omega)⟩

/-- Cells in canonical form are determined by what every address reads as. -/
theorem wfCells_ext {u : Nat → Byte} {size lo : Nat} {cs ds : List Host.Cell} (hc : wfCells u size lo cs = true)
    (hd : wfCells u size lo ds = true) (h : ∀ a, readCells u a cs = readCells u a ds) : cs = ds := by
  induction cs generalizing lo ds with
  | nil =>
    cases ds with
    | nil => rfl
    | cons d rest =>
      have := h d.1
      rw [wfCells_cons] at hd
      exact absurd (by simpa [readCells] using this.symm) hd.2.2.1
  | cons c rest ih =>
    have hc' := wfCells_cons.1 hc
    cases ds with
    | nil => exact absurd (by simpa [readCells] using h c.1) hc'.2.2.1
    | cons d rest' =>
      have hd' := wfCells_cons.1 hd
      have hfirst : c.1 = d.1 := by
        rcases lt_trichotomy c.1 d.1 with hlt | heq | hgt
        · have h1 := h c.1
          rw [readCells_below (lo := d.1) (wfCells_cons.2 ⟨le_refl _, hd'.2⟩) hlt] at h1
          exact absurd (by simpa [readCells] using h1) hc'.2.2.1
        · exact heq
        · have h1 := h d.1
          rw [readCells_below (lo := c.1) (wfCells_cons.2 ⟨le_refl _, hc'.2⟩) hgt] at h1
          exact absurd (by simpa [readCells] using h1.symm) hd'.2.2.1
      have hsecond : c.2 = d.2 := by simpa [readCells, hfirst] using h c.1
      have hhead : c = d := Prod.ext hfirst hsecond
      subst hhead
      have htail : rest = rest' := by
        refine ih hc'.2.2.2 hd'.2.2.2 fun a => ?_
        by_cases hac : c.1 = a
        · rw [readCells_below hc'.2.2.2 (by omega), readCells_below hd'.2.2.2 (by omega)]
        · simpa [readCells, hac] using h a
      rw [htail]

namespace Memory

/-- A read after a write. -/
theorem read_write {size : Nat} {m : Memory} (h : m.wf size = true) (a b : Nat) (v : Byte) :
    (m.write a v).read b = if b = a then v else m.read b :=
  readCells_writeCells a b v h

/-- The byte written is the byte read. -/
theorem read_write_same {size : Nat} {m : Memory} (h : m.wf size = true) (a : Nat) (v : Byte) :
    (m.write a v).read a = v := by simp [read_write h]

/-- A write leaves every other address alone. -/
theorem read_write_other {size : Nat} {m : Memory} (h : m.wf size = true) {a b : Nat} (hne : b ≠ a) (v : Byte) :
    (m.write a v).read b = m.read b := by simp [read_write h, hne]

/-- A write inside the bounds keeps the canonical form. -/
theorem wf_write {size : Nat} {m : Memory} (h : m.wf size = true) {a : Nat} (ha : a < size) (v : Byte) :
    (m.write a v).wf size = true :=
  wfCells_writeCells a v h (Nat.zero_le a) ha

/-- Filling inside the bounds keeps the canonical form. -/
theorem wf_fill {size : Nat} (bytes : List Byte) {m : Memory} (h : m.wf size = true) {a : Nat}
    (ha : a + bytes.length ≤ size) : (m.fill a bytes).wf size = true := by
  induction bytes generalizing m a with
  | nil => exact h
  | cons v rest ih =>
    simp only [List.length_cons] at ha
    exact ih (wf_write h (by omega) v) (by omega)

/-- Memories in canonical form over the same unlisted bytes that read alike are equal. -/
theorem ext_of_read {size : Nat} {m n : Memory} (hu : m.unlisted = n.unlisted) (hm : m.wf size = true)
    (hn : n.wf size = true) (h : ∀ a, m.read a = n.read a) : m = n := by
  cases m
  cases n
  subst hu
  exact congrArg (Memory.mk _) (wfCells_ext hm hn h)

/-- An address outside a memory reads as unlisted. -/
theorem read_outside {size : Nat} {m : Memory} (h : m.wf size = true) {a : Nat} (ha : size ≤ a) :
    m.read a = m.unlisted.byte a := by
  suffices hc : ∀ (cs : List Host.Cell) (lo : Nat), wfCells m.unlisted.byte size lo cs = true →
      readCells m.unlisted.byte a cs = m.unlisted.byte a from hc m.cells 0 h
  intro cs
  induction cs with
  | nil => exact fun _ _ => rfl
  | cons c rest ih =>
    intro lo hw
    rw [wfCells_cons] at hw
    have hne : c.1 ≠ a := by omega
    simpa [readCells, hne] using ih _ hw.2.2.2

@[simp] theorem wf_empty (size : Nat) : Memory.empty.wf size = true := rfl

@[simp] theorem wf_drawn (size n : Nat) : (Memory.drawn n).wf size = true := rfl

@[simp] theorem read_empty (a : Nat) : Memory.empty.read a = 0x00 := rfl

@[simp] theorem read_drawn (n a : Nat) : (Memory.drawn n).read a = Config.memoryDraw n a := rfl

@[simp] theorem unlisted_write (m : Memory) (a : Nat) (v : Byte) : (m.write a v).unlisted = m.unlisted := rfl

end Memory

end Sys2Proof.Machine
end

