-- ==== Sys2Proof/Laws/Inv.lean ====
section
/-! SUPPORT. The parts of the invariant `State.Inv` and what keeps each: the bus accesses, the PPU tick, the DMA
step, the APU step.  The part about memories, the cursor and the counters is `Storage`; the rest is about the
CPU and the phase. -/

namespace Sys2Proof.Machine

/-- The invariant of the PPU. -/
structure PpuInv (p : Ppu) : Prop where
  oamWf : p.oam.wf Config.oamSize = true
  nametableWf : p.nametable.wf Config.nametableSize = true
  paletteWf : p.palette.wf Config.paletteSize = true
  cycleLe : p.cycle ≤ 340
  scanlineGe : -1 ≤ p.scanline
  scanlineLe : p.scanline ≤ 260
  spritesLe : p.sprites.length ≤ 8
  lanesEq : p.lanes.length = 8
  attrLt : p.nextTileAttr.toNat < 4

/-- The invariant apart from the CPU registers and the phase. -/
structure Storage (s : State) : Prop where
  ramWf : s.ram.wf Config.ramSize = true
  ppu : PpuInv s.ppu
  cartWf : s.cart.wf = true
  fcPosLt : s.apu.fcPos < s.apu.frameLength

/-- The invariant in its three parts. -/
theorem State.inv_iff (s : State) :
    s.Inv ↔ Storage s ∧ s.cpu.b = false ∧ s.cpu.waitCycles ≤ max 7 s.cfg.resetWait ∧
      s.cyc = (s.master + 2) / 3 := by
  constructor
  · rintro ⟨h1, h2, h3, h4, h5, h6, h7, h8, h9, h10, h11, h12, h13, h14, h15⟩
    exact ⟨⟨h1, ⟨h2, h3, h4, h6, h7, h8, h10, h11, h12⟩, h5, h13⟩, h9, h14, h15⟩
  · rintro ⟨⟨h1, ⟨h2, h3, h4, h6, h7, h8, h10, h11, h12⟩, h5, h13⟩, h9, h14, h15⟩
    exact ⟨h1, h2, h3, h4, h5, h6, h7, h8, h9, h10, h11, h12, h13, h14, h15⟩

/-! ### The cartridge -/

theorem Cart.wf_readEffects {c : Cart} (h : c.wf = true) (a : Word) : (c.readEffects a).wf = true := by
  cases c
  · exact h
  · rfl

theorem Cart.wf_onScanline {c : Cart} (h : c.wf = true) (l : Int) (r : Bool) : (c.onScanline l r).wf = true := by
  cases c
  · exact h
  · rfl

theorem Cart.wf_irqAck {c : Cart} (h : c.wf = true) : c.irqAck.wf = true := by
  cases c
  · exact h
  · rfl

theorem Cart.wf_cpuWrite {c d : Cart} (h : c.wf = true) {a : Word} {v : Byte} (hw : c.cpuWrite a v = some d) :
    d.wf = true := by
  cases c with
  | mapper n =>
    obtain ⟨m, -, rfl⟩ := Option.map_eq_some_iff.1 hw
    rfl
  | board b =>
    simp only [Cart.wf, Bool.and_eq_true] at h
    simp only [Cart.cpuWrite] at hw
    split at hw
    · cases hw
      split
      · simp only [Cart.wf, Bool.and_eq_true]
        exact ⟨Memory.wf_write h.1 a.isLt v, h.2⟩
      · simpa [Cart.wf] using h
    · cases hw

theorem Cart.wf_ppuWrite {c d : Cart} (h : c.wf = true) {a : PpuAddr} {v : Byte} (hw : c.ppuWrite a v = some d) :
    d.wf = true := by
  cases c with
  | mapper n =>
    obtain ⟨m, -, rfl⟩ := Option.map_eq_some_iff.1 hw
    rfl
  | board b =>
    simp only [Cart.wf, Bool.and_eq_true] at h
    simp only [Cart.ppuWrite] at hw
    split at hw
    · rename_i hc
      cases hw
      simp only [Board.claimsPpu, Bool.and_eq_true, decide_eq_true_eq] at hc
      split
      · simp only [Cart.wf, Bool.and_eq_true]
        exact ⟨h.1, Memory.wf_write h.2 hc.2 v⟩
      · simpa [Cart.wf] using h
    · cases hw

/-! ### The APU -/

/-- The channel clocks leave the sequencer alone. -/
@[simp] theorem Apu.quarterFrame_fcPos (a : Apu) : a.quarterFrame.fcPos = a.fcPos := rfl
@[simp] theorem Apu.quarterFrame_fcMode (a : Apu) : a.quarterFrame.fcMode = a.fcMode := rfl
@[simp] theorem Apu.quarterFrame_fcIrqInhibit (a : Apu) : a.quarterFrame.fcIrqInhibit = a.fcIrqInhibit := rfl
@[simp] theorem Apu.quarterFrame_frameIrq (a : Apu) : a.quarterFrame.frameIrq = a.frameIrq := rfl
@[simp] theorem Apu.halfFrame_fcPos (a : Apu) : a.halfFrame.fcPos = a.fcPos := rfl
@[simp] theorem Apu.halfFrame_fcMode (a : Apu) : a.halfFrame.fcMode = a.fcMode := rfl
@[simp] theorem Apu.halfFrame_fcIrqInhibit (a : Apu) : a.halfFrame.fcIrqInhibit = a.fcIrqInhibit := rfl
@[simp] theorem Apu.halfFrame_frameIrq (a : Apu) : a.halfFrame.frameIrq = a.frameIrq := rfl

theorem Apu.frameLength_pos (a : Apu) : 0 < a.frameLength := by
  unfold Apu.frameLength Config.frameLength5 Config.frameLength4
  split <;> omega

/-- Both frame lengths depend on the mode only. -/
theorem Apu.frameLength_congr {a b : Apu} (h : a.fcMode = b.fcMode) : a.frameLength = b.frameLength := by
  unfold Apu.frameLength
  rw [h]

/-- An APU step keeps the position inside the frame. -/
theorem Apu.step_fcPos_lt {a : Apu} (h : a.fcPos < a.frameLength) : a.step.fcPos < a.step.frameLength := by
  have hmode : a.step.fcMode = a.fcMode := by
    unfold Apu.step
    dsimp only
    split <;> (dsimp only; split <;> split <;> simp)
  rw [Apu.frameLength_congr hmode]
  unfold Apu.step
  dsimp only
  split
  · exact a.frameLength_pos
  · dsimp only
    omega

/-- A register write keeps the position inside the frame. -/
theorem Apu.write_fcPos_lt {a : Apu} (h : a.fcPos < a.frameLength) (reg : Nat) (v : Byte) :
    (a.write reg v).fcPos < (a.write reg v).frameLength := by
  unfold Apu.write
  split
  case h_16 =>
    unfold Apu.writeFrameCounter
    dsimp only
    have := Apu.frameLength_pos
    split
    · simpa using Apu.frameLength_pos _
    · exact Apu.frameLength_pos _
  all_goals exact h

/-! ### Bus accesses -/

theorem storage_withPpu {s : State} (h : Storage s) {p : Ppu} (hp : PpuInv p) : Storage { s with ppu := p } :=
  ⟨h.ramWf, hp, h.cartWf, h.fcPosLt⟩

theorem storage_withCart {s : State} (h : Storage s) {c : Cart} (hc : c.wf = true) :
    Storage { s with cart := c } :=
  ⟨h.ramWf, h.ppu, hc, h.fcPosLt⟩

/-- A PPU bus write keeps the storage invariant. -/
theorem Storage.ppuWrite {s : State} (h : Storage s) (a : PpuAddr) (v : Byte) : Storage (ppuWrite s a v) := by
  rcases ppuWrite_cases s a v with ⟨c, hc, e⟩ | ⟨-, ⟨-, e⟩ | ⟨-, -, e⟩ | ⟨-, e⟩⟩ <;> rw [e]
  · exact storage_withCart h (Cart.wf_ppuWrite h.cartWf hc)
  · exact h
  · obtain ⟨h1, h2, h3, h4, h5, h6, h7, h8, h9⟩ := h.ppu
    exact storage_withPpu h ⟨h1, Memory.wf_write h2 (nametableIndex_lt _ _ _) v, h3, h4, h5, h6, h7, h8, h9⟩
  · obtain ⟨h1, h2, h3, h4, h5, h6, h7, h8, h9⟩ := h.ppu
    exact storage_withPpu h ⟨h1, h2, Memory.wf_write h3 (paletteIndex_lt _) v, h4, h5, h6, h7, h8, h9⟩

/-- A port write keeps the storage invariant. -/
theorem Storage.portWrite {s : State} (h : Storage s) (port : Nat) (v : Byte) : Storage (portWrite s port v) := by
  obtain ⟨h1, h2, h3, h4, h5, h6, h7, h8, h9⟩ := h.ppu
  unfold Machine.portWrite
  split
  · exact storage_withPpu h ⟨h1, h2, h3, h4, h5, h6, h7, h8, h9⟩
  · exact storage_withPpu h ⟨h1, h2, h3, h4, h5, h6, h7, h8, h9⟩
  · exact storage_withPpu h ⟨h1, h2, h3, h4, h5, h6, h7, h8, h9⟩
  · exact storage_withPpu h ⟨Memory.wf_write h1 s.ppu.oamAddr.isLt v, h2, h3, h4, h5, h6, h7, h8, h9⟩
  · refine storage_withPpu h ?_
    unfold writeScroll
    split <;> exact ⟨h1, h2, h3, h4, h5, h6, h7, h8, h9⟩
  · refine storage_withPpu h ?_
    unfold writeAddr
    split <;> exact ⟨h1, h2, h3, h4, h5, h6, h7, h8, h9⟩
  · have hw := h.ppuWrite (vramBusAddr s.ppu) v
    obtain ⟨k1, k2, k3, k4, k5, k6, k7, k8, k9⟩ := hw.ppu
    exact storage_withPpu hw ⟨k1, k2, k3, k4, k5, k6, k7, k8, k9⟩
  · exact h

/-- Register updates, bus reads and bus writes keep the storage invariant. -/
theorem storage_closed : BusClosed Storage where
  cpu := fun _ _ h => ⟨h.ramWf, h.ppu, h.cartWf, h.fcPosLt⟩
  read := by
    intro s a h
    rcases readEffects_cases s a with ⟨v, -, e⟩ | ⟨-, ⟨-, -, -, e⟩ | ⟨-, e⟩ | ⟨-, e⟩ | ⟨-, e⟩ | ⟨-, e⟩⟩ <;> rw [e]
    · exact storage_withCart h (Cart.wf_readEffects h.cartWf a)
    · obtain ⟨h1, h2, h3, h4, h5, h6, h7, h8, h9⟩ := h.ppu
      unfold portReadEffects
      split
      · exact storage_withPpu h ⟨h1, h2, h3, h4, h5, h6, h7, h8, h9⟩
      · exact storage_withPpu h ⟨h1, h2, h3, h4, h5, h6, h7, h8, h9⟩
      · exact h
    · exact ⟨h.ramWf, h.ppu, h.cartWf, h.fcPosLt⟩
    · exact ⟨h.ramWf, h.ppu, h.cartWf, h.fcPosLt⟩
    · exact ⟨h.ramWf, h.ppu, h.cartWf, h.fcPosLt⟩
    · exact h
  write := by
    intro s a v h
    unfold memWrite
    split
    · rename_i c hc
      exact storage_withCart h (Cart.wf_cpuWrite h.cartWf hc)
    · unfold consoleWrite
      split
      · exact ⟨Memory.wf_write h.ramWf (ramIndex_lt a) v, h.ppu, h.cartWf, h.fcPosLt⟩
      split
      · exact h.portWrite _ v
      split
      · exact ⟨h.ramWf, h.ppu, h.cartWf, h.fcPosLt⟩
      split
      · exact ⟨h.ramWf, h.ppu, h.cartWf, h.fcPosLt⟩
      split
      · have hreg := Apu.write_fcPos_lt h.fcPosLt (a.toNat - 0x4000) v
        generalize a.toNat - 0x4000 = reg at hreg
        exact ⟨h.ramWf, h.ppu, h.cartWf, hreg⟩
      · exact h

/-! ### The PPU tick -/

/-- Counting down and shifting keep the number of sprites and of lanes. -/
theorem shiftLanes_length (sps : List Sprite) (ls : List Lane) :
    (shiftLanes sps ls).1.length = sps.length ∧ (shiftLanes sps ls).2.length = ls.length := by
  induction sps generalizing ls with
  | nil => exact ⟨rfl, rfl⟩
  | cons sp sps ih =>
    cases ls with
    | nil => exact ⟨rfl, rfl⟩
    | cons l ls =>
      obtain ⟨h1, h2⟩ := ih ls
      unfold shiftLanes
      split <;> simp [h1, h2]

/-- An evaluation never selects more than eight sprites. -/
theorem evaluateFrom_length (oam : Memory) (line : Int) (h : Nat) (ns : List Nat) (e : Evaluation)
    (he : e.sprites.length ≤ 8) : (evaluateFrom oam line h ns e).sprites.length ≤ 8 := by
  induction ns generalizing e with
  | nil => exact he
  | cons n ns ih =>
    unfold evaluateFrom
    split
    · split
      · rename_i hlt
        refine ih _ ?_
        simp only [Config.maxSprites] at hlt
        simp only [List.length_append, List.length_singleton]
        omega
      · exact he
    · exact ih e he

/-- The attribute latch takes two bits. -/
theorem attributeQuadrant_lt (v : Scroll) (b : Byte) : (attributeQuadrant v b).toNat < 4 := by
  unfold attributeQuadrant
  simp only [BitVec.toNat_and]
  exact Nat.lt_of_le_of_lt Nat.and_le_right (by decide)

theorem PpuInv.shiftBackground {p : Ppu} (h : PpuInv p) : PpuInv (shiftBackground p) := by
  obtain ⟨h1, h2, h3, h4, h5, h6, h7, h8, h9⟩ := h
  unfold Machine.shiftBackground
  split <;> exact ⟨h1, h2, h3, h4, h5, h6, h7, h8, h9⟩

theorem PpuInv.shiftSprites {p : Ppu} (h : PpuInv p) : PpuInv (shiftSprites p) := by
  obtain ⟨h1, h2, h3, h4, h5, h6, h7, h8, h9⟩ := h
  obtain ⟨k1, k2⟩ := shiftLanes_length p.sprites p.lanes
  unfold Machine.shiftSprites
  split
  · exact ⟨h1, h2, h3, h4, h5, h6, k1.le.trans h7, k2.trans h8, h9⟩
  · exact ⟨h1, h2, h3, h4, h5, h6, h7, h8, h9⟩

theorem PpuInv.loadBgShifters {p : Ppu} (h : PpuInv p) : PpuInv (loadBgShifters p) := by
  obtain ⟨h1, h2, h3, h4, h5, h6, h7, h8, h9⟩ := h
  exact ⟨h1, h2, h3, h4, h5, h6, h7, h8, h9⟩

theorem PpuInv.whenRendering {p : Ppu} (h : PpuInv p) (f : Ppu → Scroll) : PpuInv (whenRendering p f) := by
  obtain ⟨h1, h2, h3, h4, h5, h6, h7, h8, h9⟩ := h
  unfold Machine.whenRendering
  split <;> exact ⟨h1, h2, h3, h4, h5, h6, h7, h8, h9⟩

theorem PpuInv.spriteEvaluation {p : Ppu} (h : PpuInv p) : PpuInv (spriteEvaluation p) := by
  obtain ⟨h1, h2, h3, h4, h5, h6, h7, h8, h9⟩ := h
  exact ⟨h1, h2, h3, h4, h5, h6, evaluateFrom_length _ _ _ _ _ (by decide), h8, h9⟩

theorem PpuInv.oddFrameSkip {p : Ppu} (h : PpuInv p) : PpuInv (oddFrameSkip p) := by
  obtain ⟨h1, h2, h3, h4, h5, h6, h7, h8, h9⟩ := h
  unfold Machine.oddFrameSkip
  split
  · exact ⟨h1, h2, h3, (by decide : 1 ≤ 340), h5, h6, h7, h8, h9⟩
  · exact ⟨h1, h2, h3, h4, h5, h6, h7, h8, h9⟩

theorem PpuInv.frameStartClear {p : Ppu} (h : PpuInv p) : PpuInv (frameStartClear p) := by
  obtain ⟨h1, h2, h3, h4, h5, h6, h7, h8, h9⟩ := h
  exact ⟨h1, h2, h3, h4, h5, h6, h7, by simpa [Machine.frameStartClear] using h8, h9⟩

theorem PpuInv.advanceCursor {p : Ppu} (h : PpuInv p) : PpuInv (advanceCursor p) := by
  obtain ⟨h1, h2, h3, h4, h5, h6, h7, h8, h9⟩ := h
  unfold Machine.advanceCursor
  by_cases hc : p.cycle + 1 > Config.lastCycle
  · by_cases hl : p.scanline + 1 > Config.lastScanline
    · simp only [hc, hl, if_true]
      exact ⟨h1, h2, h3, Nat.zero_le _, le_refl _, (by decide : (-1 : Int) ≤ 260), h7, h8, h9⟩
    · simp only [hc, hl, if_true, if_false]
      simp only [Config.lastScanline] at hl
      exact ⟨h1, h2, h3, Nat.zero_le _, by dsimp only; omega, by dsimp only; omega, h7, h8, h9⟩
  · simp only [hc, if_false]
    simp only [Config.lastCycle] at hc
    exact ⟨h1, h2, h3, by dsimp only; omega, h5, h6, h7, h8, h9⟩

/-- The background pipeline keeps the storage invariant. -/
theorem Storage.bgPhase {s : State} (h : Storage s) (k : Nat) : Storage (bgPhase s k) := by
  obtain ⟨h1, h2, h3, h4, h5, h6, h7, h8, h9⟩ := h.ppu
  unfold Machine.bgPhase
  split
  · exact storage_withPpu h ⟨h1, h2, h3, h4, h5, h6, h7, h8, h9⟩
  · exact storage_withPpu h ⟨h1, h2, h3, h4, h5, h6, h7, h8, attributeQuadrant_lt _ _⟩
  · exact storage_withPpu h ⟨h1, h2, h3, h4, h5, h6, h7, h8, h9⟩
  · exact storage_withPpu h ⟨h1, h2, h3, h4, h5, h6, h7, h8, h9⟩
  · exact storage_withPpu h (h.ppu.whenRendering _)
  · exact h

/-- Sprite fetch keeps eight lanes. -/
theorem Storage.spriteFetch {s : State} (h : Storage s) : Storage (spriteFetch s) := by
  obtain ⟨h1, h2, h3, h4, h5, h6, h7, h8, h9⟩ := h.ppu
  refine storage_withPpu h ⟨h1, h2, h3, h4, h5, h6, h7, ?_, h9⟩
  simp only [List.length_append, List.length_map, List.length_drop]
  omega

theorem Storage.clearPart {s : State} (h : Storage s) : Storage (clearPart s) := by
  unfold Machine.clearPart
  split
  · exact storage_withPpu h h.ppu.frameStartClear
  · exact h

theorem Storage.pipelinePart {s : State} (h : Storage s) : Storage (pipelinePart s) := by
  unfold Machine.pipelinePart
  split
  · exact (storage_withPpu h h.ppu.shiftBackground.shiftSprites).bgPhase _
  · exact h

theorem Storage.incrementYPart {s : State} (h : Storage s) : Storage (incrementYPart s) := by
  unfold Machine.incrementYPart
  split
  · exact storage_withPpu h (h.ppu.whenRendering _)
  · exact h

theorem Storage.transferXPart {s : State} (h : Storage s) : Storage (transferXPart s) := by
  unfold Machine.transferXPart
  split
  · exact storage_withPpu h (h.ppu.loadBgShifters.whenRendering _)
  · exact h

theorem Storage.transferYPart {s : State} (h : Storage s) : Storage (transferYPart s) := by
  unfold Machine.transferYPart
  split
  · exact storage_withPpu h (h.ppu.whenRendering _)
  · exact h

theorem Storage.evaluationPart {s : State} (h : Storage s) : Storage (evaluationPart s) := by
  unfold Machine.evaluationPart
  split
  · exact storage_withPpu h h.ppu.spriteEvaluation
  · exact h

theorem Storage.fetchPart {s : State} (h : Storage s) : Storage (fetchPart s) := by
  unfold Machine.fetchPart
  split
  · exact h.spriteFetch
  · exact h

/-- The work on a renderable line keeps the storage invariant. -/
theorem Storage.renderLine {s : State} (h : Storage s) : Storage (renderLine s) :=
  (storage_withPpu h h.ppu.oddFrameSkip).clearPart.pipelinePart.incrementYPart.transferXPart.transferYPart
    |>.evaluationPart.fetchPart

theorem Storage.scanlineHook {s : State} (h : Storage s) : Storage (scanlineHook s) := by
  unfold Machine.scanlineHook
  split
  · exact storage_withCart h (Cart.wf_onScanline h.cartWf _ _)
  · exact h

theorem Storage.vblankPart {s : State} (h : Storage s) : Storage (vblankPart s) := by
  unfold Machine.vblankPart vblankStart
  split
  · split
    · exact h
    · obtain ⟨h1, h2, h3, h4, h5, h6, h7, h8, h9⟩ := h.ppu
      exact ⟨h.ramWf, ⟨h1, h2, h3, h4, h5, h6, h7, h8, h9⟩, h.cartWf, h.fcPosLt⟩
  · exact h

theorem Storage.pixelPart {s : State} (h : Storage s) : Storage (pixelPart s) := by
  unfold Machine.pixelPart outputPixel
  split
  · obtain ⟨h1, h2, h3, h4, h5, h6, h7, h8, h9⟩ := h.ppu
    exact ⟨h.ramWf, ⟨h1, h2, h3, h4, h5, h6, h7, h8, h9⟩, h.cartWf, h.fcPosLt⟩
  · exact h

theorem Storage.renderPart {s : State} (h : Storage s) : Storage (renderPart s) := by
  unfold Machine.renderPart
  split
  · exact h.renderLine
  · exact h

/-- A PPU tick keeps the storage invariant. -/
theorem Storage.ppuTick {s : State} (h : Storage s) : Storage (ppuTick s) := by
  have hstart : Storage { s with ppu := moveRaceFlags s.ppu, pixel := none } := by
    obtain ⟨h1, h2, h3, h4, h5, h6, h7, h8, h9⟩ := h.ppu
    exact ⟨h.ramWf, ⟨h1, h2, h3, h4, h5, h6, h7, h8, h9⟩, h.cartWf, h.fcPosLt⟩
  have ht := hstart.scanlineHook.renderPart.vblankPart.pixelPart
  exact storage_withPpu ht ht.ppu.advanceCursor

/-! ### The other parts of a master tick -/

/-- A DMA step keeps the storage invariant. -/
theorem Storage.dmaStep {s : State} (h : Storage s) : Storage (dmaStep s) := by
  have h1 : Storage { s with dma := { s.dma with dummy := false } } := ⟨h.ramWf, h.ppu, h.cartWf, h.fcPosLt⟩
  unfold Machine.dmaStep
  dsimp only
  split
  · exact h1
  split
  · have h2 := storage_closed.read _ (hilo s.dma.page s.dma.addr) h1
    exact ⟨h2.ramWf, h2.ppu, h2.cartWf, h2.fcPosLt⟩
  · obtain ⟨k1, k2, k3, k4, k5, k6, k7, k8, k9⟩ := h.ppu
    exact ⟨h.ramWf, ⟨Memory.wf_write k1 s.dma.addr.isLt _, k2, k3, k4, k5, k6, k7, k8, k9⟩, h.cartWf, h.fcPosLt⟩

/-- An APU step keeps the storage invariant. -/
theorem Storage.apuStep {s : State} (h : Storage s) : Storage (apuStep s) :=
  ⟨h.ramWf, h.ppu, h.cartWf, Apu.step_fcPos_lt h.fcPosLt⟩

/-- Fetching keeps the storage invariant. -/
theorem Storage.fetchBytes (n : Nat) {s : State} (h : Storage s) : Storage (fetchBytes n s).2 := by
  induction n generalizing s with
  | zero => exact h
  | succ n ih =>
    refine ih ?_
    rw [fetchByte_snd]
    exact storage_closed.cpu _ _ (storage_closed.read _ _ h)

theorem Storage.fetchInstr {s : State} (h : Storage s) : Storage (fetchInstr s).2 := by
  refine Storage.fetchBytes _ ?_
  rw [fetchByte_snd]
  exact storage_closed.cpu _ _ (storage_closed.read _ _ h)

/-- An interrupt entry keeps the storage invariant. -/
theorem Storage.interruptEntry {s : State} (h : Storage s) (vector : Word) : Storage (interruptEntry s vector) :=
  storage_closed.cpu _ _ (storage_closed.enterHandler _ _ _ h)

end Sys2Proof.Machine
end

