-- ==== Sys2Proof/Laws/PerInstr.lean ====
section
/-! SUPPORT. Statements made of every instruction of the table, one lemma for each constructor. -/

namespace Sys2Proof.Laws.EncodedLength

/-- The encoding has the length the fetch derives from its first byte: the opcode byte and as many operand bytes
as the opcode asks for (spec/30_encoding.md rules R110, R111). -/
def Statement (i : Instr) : Prop := (encode i).length = operandCount (opcode i) + 1

/-- The statement from the opcode byte and its operand count. -/
theorem of {i : Instr} (op : Byte) (n : Nat) (ho : opcode i = op) (hl : (encode i).length = n + 1)
    (hc : operandCount op = n) : Statement i := by
  unfold Statement
  rw [ho, hl, hc]

theorem brk : Statement .brk := of 0x00 0 rfl rfl rfl
theorem oraIzx (d : Byte) : Statement (.oraIzx d) := of 0x01 1 rfl rfl rfl
theorem sloIzx (d : Byte) : Statement (.sloIzx d) := of 0x03 1 rfl rfl rfl
theorem nopZp04 (d : Byte) : Statement (.nopZp04 d) := of 0x04 1 rfl rfl rfl
theorem oraZp (d : Byte) : Statement (.oraZp d) := of 0x05 1 rfl rfl rfl
theorem aslZp (d : Byte) : Statement (.aslZp d) := of 0x06 1 rfl rfl rfl
theorem sloZp (d : Byte) : Statement (.sloZp d) := of 0x07 1 rfl rfl rfl
theorem php : Statement .php := of 0x08 0 rfl rfl rfl
theorem oraImm (d : Byte) : Statement (.oraImm d) := of 0x09 1 rfl rfl rfl
theorem aslAcc : Statement .aslAcc := of 0x0A 0 rfl rfl rfl
theorem nopAbs0C (w : Word) : Statement (.nopAbs0C w) := of 0x0C 2 rfl rfl rfl
theorem oraAbs (w : Word) : Statement (.oraAbs w) := of 0x0D 2 rfl rfl rfl
theorem aslAbs (w : Word) : Statement (.aslAbs w) := of 0x0E 2 rfl rfl rfl
theorem sloAbs (w : Word) : Statement (.sloAbs w) := of 0x0F 2 rfl rfl rfl
theorem bpl (d : Byte) : Statement (.bpl d) := of 0x10 1 rfl rfl rfl
theorem oraIzy (d : Byte) : Statement (.oraIzy d) := of 0x11 1 rfl rfl rfl
theorem sloIzy (d : Byte) : Statement (.sloIzy d) := of 0x13 1 rfl rfl rfl
theorem nopZpx14 (d : Byte) : Statement (.nopZpx14 d) := of 0x14 1 rfl rfl rfl
theorem oraZpx (d : Byte) : Statement (.oraZpx d) := of 0x15 1 rfl rfl rfl
theorem aslZpx (d : Byte) : Statement (.aslZpx d) := of 0x16 1 rfl rfl rfl
theorem sloZpx (d : Byte) : Statement (.sloZpx d) := of 0x17 1 rfl rfl rfl
theorem clc : Statement .clc := of 0x18 0 rfl rfl rfl
theorem oraAby (w : Word) : Statement (.oraAby w) := of 0x19 2 rfl rfl rfl
theorem nop1A : Statement .nop1A := of 0x1A 0 rfl rfl rfl
theorem sloAby (w : Word) : Statement (.sloAby w) := of 0x1B 2 rfl rfl rfl
theorem nopAbx1C (w : Word) : Statement (.nopAbx1C w) := of 0x1C 2 rfl rfl rfl
theorem oraAbx (w : Word) : Statement (.oraAbx w) := of 0x1D 2 rfl rfl rfl
theorem aslAbx (w : Word) : Statement (.aslAbx w) := of 0x1E 2 rfl rfl rfl
theorem sloAbx (w : Word) : Statement (.sloAbx w) := of 0x1F 2 rfl rfl rfl
theorem jsr (w : Word) : Statement (.jsr w) := of 0x20 2 rfl rfl rfl
theorem andIzx (d : Byte) : Statement (.andIzx d) := of 0x21 1 rfl rfl rfl
theorem rlaIzx (d : Byte) : Statement (.rlaIzx d) := of 0x23 1 rfl rfl rfl
theorem bitZp (d : Byte) : Statement (.bitZp d) := of 0x24 1 rfl rfl rfl
theorem andZp (d : Byte) : Statement (.andZp d) := of 0x25 1 rfl rfl rfl
theorem rolZp (d : Byte) : Statement (.rolZp d) := of 0x26 1 rfl rfl rfl
theorem rlaZp (d : Byte) : Statement (.rlaZp d) := of 0x27 1 rfl rfl rfl
theorem plp : Statement .plp := of 0x28 0 rfl rfl rfl
theorem andImm (d : Byte) : Statement (.andImm d) := of 0x29 1 rfl rfl rfl
theorem rolAcc : Statement .rolAcc := of 0x2A 0 rfl rfl rfl
theorem bitAbs (w : Word) : Statement (.bitAbs w) := of 0x2C 2 rfl rfl rfl
theorem andAbs (w : Word) : Statement (.andAbs w) := of 0x2D 2 rfl rfl rfl
theorem rolAbs (w : Word) : Statement (.rolAbs w) := of 0x2E 2 rfl rfl rfl
theorem rlaAbs (w : Word) : Statement (.rlaAbs w) := of 0x2F 2 rfl rfl rfl
theorem bmi (d : Byte) : Statement (.bmi d) := of 0x30 1 rfl rfl rfl
theorem andIzy (d : Byte) : Statement (.andIzy d) := of 0x31 1 rfl rfl rfl
theorem rlaIzy (d : Byte) : Statement (.rlaIzy d) := of 0x33 1 rfl rfl rfl
theorem nopZpx34 (d : Byte) : Statement (.nopZpx34 d) := of 0x34 1 rfl rfl rfl
theorem andZpx (d : Byte) : Statement (.andZpx d) := of 0x35 1 rfl rfl rfl
theorem rolZpx (d : Byte) : Statement (.rolZpx d) := of 0x36 1 rfl rfl rfl
theorem rlaZpx (d : Byte) : Statement (.rlaZpx d) := of 0x37 1 rfl rfl rfl
theorem sec : Statement .sec := of 0x38 0 rfl rfl rfl
theorem andAby (w : Word) : Statement (.andAby w) := of 0x39 2 rfl rfl rfl
theorem nop3A : Statement .nop3A := of 0x3A 0 rfl rfl rfl
theorem rlaAby (w : Word) : Statement (.rlaAby w) := of 0x3B 2 rfl rfl rfl
theorem nopAbx3C (w : Word) : Statement (.nopAbx3C w) := of 0x3C 2 rfl rfl rfl
theorem andAbx (w : Word) : Statement (.andAbx w) := of 0x3D 2 rfl rfl rfl
theorem rolAbx (w : Word) : Statement (.rolAbx w) := of 0x3E 2 rfl rfl rfl
theorem rlaAbx (w : Word) : Statement (.rlaAbx w) := of 0x3F 2 rfl rfl rfl
theorem rti : Statement .rti := of 0x40 0 rfl rfl rfl
theorem eorIzx (d : Byte) : Statement (.eorIzx d) := of 0x41 1 rfl rfl rfl
theorem sreIzx (d : Byte) : Statement (.sreIzx d) := of 0x43 1 rfl rfl rfl
theorem nopZp44 (d : Byte) : Statement (.nopZp44 d) := of 0x44 1 rfl rfl rfl
theorem eorZp (d : Byte) : Statement (.eorZp d) := of 0x45 1 rfl rfl rfl
theorem lsrZp (d : Byte) : Statement (.lsrZp d) := of 0x46 1 rfl rfl rfl
theorem sreZp (d : Byte) : Statement (.sreZp d) := of 0x47 1 rfl rfl rfl
theorem pha : Statement .pha := of 0x48 0 rfl rfl rfl
theorem eorImm (d : Byte) : Statement (.eorImm d) := of 0x49 1 rfl rfl rfl
theorem lsrAcc : Statement .lsrAcc := of 0x4A 0 rfl rfl rfl
theorem jmpAbs (w : Word) : Statement (.jmpAbs w) := of 0x4C 2 rfl rfl rfl
theorem eorAbs (w : Word) : Statement (.eorAbs w) := of 0x4D 2 rfl rfl rfl
theorem lsrAbs (w : Word) : Statement (.lsrAbs w) := of 0x4E 2 rfl rfl rfl
theorem sreAbs (w : Word) : Statement (.sreAbs w) := of 0x4F 2 rfl rfl rfl
theorem bvc (d : Byte) : Statement (.bvc d) := of 0x50 1 rfl rfl rfl
theorem eorIzy (d : Byte) : Statement (.eorIzy d) := of 0x51 1 rfl rfl rfl
theorem sreIzy (d : Byte) : Statement (.sreIzy d) := of 0x53 1 rfl rfl rfl
theorem nopZpx54 (d : Byte) : Statement (.nopZpx54 d) := of 0x54 1 rfl rfl rfl
theorem eorZpx (d : Byte) : Statement (.eorZpx d) := of 0x55 1 rfl rfl rfl
theorem lsrZpx (d : Byte) : Statement (.lsrZpx d) := of 0x56 1 rfl rfl rfl
theorem sreZpx (d : Byte) : Statement (.sreZpx d) := of 0x57 1 rfl rfl rfl
theorem cli : Statement .cli := of 0x58 0 rfl rfl rfl
theorem eorAby (w : Word) : Statement (.eorAby w) := of 0x59 2 rfl rfl rfl
theorem nop5A : Statement .nop5A := of 0x5A 0 rfl rfl rfl
theorem sreAby (w : Word) : Statement (.sreAby w) := of 0x5B 2 rfl rfl rfl
theorem nopAbx5C (w : Word) : Statement (.nopAbx5C w) := of 0x5C 2 rfl rfl rfl
theorem eorAbx (w : Word) : Statement (.eorAbx w) := of 0x5D 2 rfl rfl rfl
theorem lsrAbx (w : Word) : Statement (.lsrAbx w) := of 0x5E 2 rfl rfl rfl
theorem sreAbx (w : Word) : Statement (.sreAbx w) := of 0x5F 2 rfl rfl rfl
theorem rts : Statement .rts := of 0x60 0 rfl rfl rfl
theorem adcIzx (d : Byte) : Statement (.adcIzx d) := of 0x61 1 rfl rfl rfl
theorem rraIzx (d : Byte) : Statement (.rraIzx d) := of 0x63 1 rfl rfl rfl
theorem nopZp64 (d : Byte) : Statement (.nopZp64 d) := of 0x64 1 rfl rfl rfl
theorem adcZp (d : Byte) : Statement (.adcZp d) := of 0x65 1 rfl rfl rfl
theorem rorZp (d : Byte) : Statement (.rorZp d) := of 0x66 1 rfl rfl rfl
theorem rraZp (d : Byte) : Statement (.rraZp d) := of 0x67 1 rfl rfl rfl
theorem pla : Statement .pla := of 0x68 0 rfl rfl rfl
theorem adcImm (d : Byte) : Statement (.adcImm d) := of 0x69 1 rfl rfl rfl
theorem rorAcc : Statement .rorAcc := of 0x6A 0 rfl rfl rfl
theorem jmpInd (w : Word) : Statement (.jmpInd w) := of 0x6C 2 rfl rfl rfl
theorem adcAbs (w : Word) : Statement (.adcAbs w) := of 0x6D 2 rfl rfl rfl
theorem rorAbs (w : Word) : Statement (.rorAbs w) := of 0x6E 2 rfl rfl rfl
theorem rraAbs (w : Word) : Statement (.rraAbs w) := of 0x6F 2 rfl rfl rfl
theorem bvs (d : Byte) : Statement (.bvs d) := of 0x70 1 rfl rfl rfl
theorem adcIzy (d : Byte) : Statement (.adcIzy d) := of 0x71 1 rfl rfl rfl
theorem rraIzy (d : Byte) : Statement (.rraIzy d) := of 0x73 1 rfl rfl rfl
theorem nopZpx74 (d : Byte) : Statement (.nopZpx74 d) := of 0x74 1 rfl rfl rfl
theorem adcZpx (d : Byte) : Statement (.adcZpx d) := of 0x75 1 rfl rfl rfl
theorem rorZpx (d : Byte) : Statement (.rorZpx d) := of 0x76 1 rfl rfl rfl
theorem rraZpx (d : Byte) : Statement (.rraZpx d) := of 0x77 1 rfl rfl rfl
theorem sei : Statement .sei := of 0x78 0 rfl rfl rfl
theorem adcAby (w : Word) : Statement (.adcAby w) := of 0x79 2 rfl rfl rfl
theorem nop7A : Statement .nop7A := of 0x7A 0 rfl rfl rfl
theorem rraAby (w : Word) : Statement (.rraAby w) := of 0x7B 2 rfl rfl rfl
theorem nopAbx7C (w : Word) : Statement (.nopAbx7C w) := of 0x7C 2 rfl rfl rfl
theorem adcAbx (w : Word) : Statement (.adcAbx w) := of 0x7D 2 rfl rfl rfl
theorem rorAbx (w : Word) : Statement (.rorAbx w) := of 0x7E 2 rfl rfl rfl
theorem rraAbx (w : Word) : Statement (.rraAbx w) := of 0x7F 2 rfl rfl rfl
theorem nopImm80 (d : Byte) : Statement (.nopImm80 d) := of 0x80 1 rfl rfl rfl
theorem staIzx (d : Byte) : Statement (.staIzx d) := of 0x81 1 rfl rfl rfl
theorem saxIzx (d : Byte) : Statement (.saxIzx d) := of 0x83 1 rfl rfl rfl
theorem styZp (d : Byte) : Statement (.styZp d) := of 0x84 1 rfl rfl rfl
theorem staZp (d : Byte) : Statement (.staZp d) := of 0x85 1 rfl rfl rfl
theorem stxZp (d : Byte) : Statement (.stxZp d) := of 0x86 1 rfl rfl rfl
theorem saxZp (d : Byte) : Statement (.saxZp d) := of 0x87 1 rfl rfl rfl
theorem dey : Statement .dey := of 0x88 0 rfl rfl rfl
theorem txa : Statement .txa := of 0x8A 0 rfl rfl rfl
theorem styAbs (w : Word) : Statement (.styAbs w) := of 0x8C 2 rfl rfl rfl
theorem staAbs (w : Word) : Statement (.staAbs w) := of 0x8D 2 rfl rfl rfl
theorem stxAbs (w : Word) : Statement (.stxAbs w) := of 0x8E 2 rfl rfl rfl
theorem saxAbs (w : Word) : Statement (.saxAbs w) := of 0x8F 2 rfl rfl rfl
theorem bcc (d : Byte) : Statement (.bcc d) := of 0x90 1 rfl rfl rfl
theorem staIzy (d : Byte) : Statement (.staIzy d) := of 0x91 1 rfl rfl rfl
theorem styZpx (d : Byte) : Statement (.styZpx d) := of 0x94 1 rfl rfl rfl
theorem staZpx (d : Byte) : Statement (.staZpx d) := of 0x95 1 rfl rfl rfl
theorem stxZpy (d : Byte) : Statement (.stxZpy d) := of 0x96 1 rfl rfl rfl
theorem saxZpy (d : Byte) : Statement (.saxZpy d) := of 0x97 1 rfl rfl rfl
theorem tya : Statement .tya := of 0x98 0 rfl rfl rfl
theorem staAby (w : Word) : Statement (.staAby w) := of 0x99 2 rfl rfl rfl
theorem txs : Statement .txs := of 0x9A 0 rfl rfl rfl
theorem staAbx (w : Word) : Statement (.staAbx w) := of 0x9D 2 rfl rfl rfl
theorem ldyImm (d : Byte) : Statement (.ldyImm d) := of 0xA0 1 rfl rfl rfl
theorem ldaIzx (d : Byte) : Statement (.ldaIzx d) := of 0xA1 1 rfl rfl rfl
theorem ldxImm (d : Byte) : Statement (.ldxImm d) := of 0xA2 1 rfl rfl rfl
theorem laxIzx (d : Byte) : Statement (.laxIzx d) := of 0xA3 1 rfl rfl rfl
theorem ldyZp (d : Byte) : Statement (.ldyZp d) := of 0xA4 1 rfl rfl rfl
theorem ldaZp (d : Byte) : Statement (.ldaZp d) := of 0xA5 1 rfl rfl rfl
theorem ldxZp (d : Byte) : Statement (.ldxZp d) := of 0xA6 1 rfl rfl rfl
theorem laxZp (d : Byte) : Statement (.laxZp d) := of 0xA7 1 rfl rfl rfl
theorem tay : Statement .tay := of 0xA8 0 rfl rfl rfl
theorem ldaImm (d : Byte) : Statement (.ldaImm d) := of 0xA9 1 rfl rfl rfl
theorem tax : Statement .tax := of 0xAA 0 rfl rfl rfl
theorem ldyAbs (w : Word) : Statement (.ldyAbs w) := of 0xAC 2 rfl rfl rfl
theorem ldaAbs (w : Word) : Statement (.ldaAbs w) := of 0xAD 2 rfl rfl rfl
theorem ldxAbs (w : Word) : Statement (.ldxAbs w) := of 0xAE 2 rfl rfl rfl
theorem laxAbs (w : Word) : Statement (.laxAbs w) := of 0xAF 2 rfl rfl rfl
theorem bcs (d : Byte) : Statement (.bcs d) := of 0xB0 1 rfl rfl rfl
theorem ldaIzy (d : Byte) : Statement (.ldaIzy d) := of 0xB1 1 rfl rfl rfl
theorem laxIzy (d : Byte) : Statement (.laxIzy d) := of 0xB3 1 rfl rfl rfl
theorem ldyZpx (d : Byte) : Statement (.ldyZpx d) := of 0xB4 1 rfl rfl rfl
theorem ldaZpx (d : Byte) : Statement (.ldaZpx d) := of 0xB5 1 rfl rfl rfl
theorem ldxZpy (d : Byte) : Statement (.ldxZpy d) := of 0xB6 1 rfl rfl rfl
theorem laxZpy (d : Byte) : Statement (.laxZpy d) := of 0xB7 1 rfl rfl rfl
theorem clv : Statement .clv := of 0xB8 0 rfl rfl rfl
theorem ldaAby (w : Word) : Statement (.ldaAby w) := of 0xB9 2 rfl rfl rfl
theorem tsx : Statement .tsx := of 0xBA 0 rfl rfl rfl
theorem ldyAbx (w : Word) : Statement (.ldyAbx w) := of 0xBC 2 rfl rfl rfl
theorem ldaAbx (w : Word) : Statement (.ldaAbx w) := of 0xBD 2 rfl rfl rfl
theorem ldxAby (w : Word) : Statement (.ldxAby w) := of 0xBE 2 rfl rfl rfl
theorem laxAby (w : Word) : Statement (.laxAby w) := of 0xBF 2 rfl rfl rfl
theorem cpyImm (d : Byte) : Statement (.cpyImm d) := of 0xC0 1 rfl rfl rfl
theorem cmpIzx (d : Byte) : Statement (.cmpIzx d) := of 0xC1 1 rfl rfl rfl
theorem dcpIzx (d : Byte) : Statement (.dcpIzx d) := of 0xC3 1 rfl rfl rfl
theorem cpyZp (d : Byte) : Statement (.cpyZp d) := of 0xC4 1 rfl rfl rfl
theorem cmpZp (d : Byte) : Statement (.cmpZp d) := of 0xC5 1 rfl rfl rfl
theorem decZp (d : Byte) : Statement (.decZp d) := of 0xC6 1 rfl rfl rfl
theorem dcpZp (d : Byte) : Statement (.dcpZp d) := of 0xC7 1 rfl rfl rfl
theorem iny : Statement .iny := of 0xC8 0 rfl rfl rfl
theorem cmpImm (d : Byte) : Statement (.cmpImm d) := of 0xC9 1 rfl rfl rfl
theorem dex : Statement .dex := of 0xCA 0 rfl rfl rfl
theorem cpyAbs (w : Word) : Statement (.cpyAbs w) := of 0xCC 2 rfl rfl rfl
theorem cmpAbs (w : Word) : Statement (.cmpAbs w) := of 0xCD 2 rfl rfl rfl
theorem decAbs (w : Word) : Statement (.decAbs w) := of 0xCE 2 rfl rfl rfl
theorem dcpAbs (w : Word) : Statement (.dcpAbs w) := of 0xCF 2 rfl rfl rfl
theorem bne (d : Byte) : Statement (.bne d) := of 0xD0 1 rfl rfl rfl
theorem cmpIzy (d : Byte) : Statement (.cmpIzy d) := of 0xD1 1 rfl rfl rfl
theorem dcpIzy (d : Byte) : Statement (.dcpIzy d) := of 0xD3 1 rfl rfl rfl
theorem nopZpxD4 (d : Byte) : Statement (.nopZpxD4 d) := of 0xD4 1 rfl rfl rfl
theorem cmpZpx (d : Byte) : Statement (.cmpZpx d) := of 0xD5 1 rfl rfl rfl
theorem decZpx (d : Byte) : Statement (.decZpx d) := of 0xD6 1 rfl rfl rfl
theorem dcpZpx (d : Byte) : Statement (.dcpZpx d) := of 0xD7 1 rfl rfl rfl
theorem cld : Statement .cld := of 0xD8 0 rfl rfl rfl
theorem cmpAby (w : Word) : Statement (.cmpAby w) := of 0xD9 2 rfl rfl rfl
theorem nopDA : Statement .nopDA := of 0xDA 0 rfl rfl rfl
theorem dcpAby (w : Word) : Statement (.dcpAby w) := of 0xDB 2 rfl rfl rfl
theorem nopAbxDC (w : Word) : Statement (.nopAbxDC w) := of 0xDC 2 rfl rfl rfl
theorem cmpAbx (w : Word) : Statement (.cmpAbx w) := of 0xDD 2 rfl rfl rfl
theorem decAbx (w : Word) : Statement (.decAbx w) := of 0xDE 2 rfl rfl rfl
theorem dcpAbx (w : Word) : Statement (.dcpAbx w) := of 0xDF 2 rfl rfl rfl
theorem cpxImm (d : Byte) : Statement (.cpxImm d) := of 0xE0 1 rfl rfl rfl
theorem sbcIzx (d : Byte) : Statement (.sbcIzx d) := of 0xE1 1 rfl rfl rfl
theorem isbIzx (d : Byte) : Statement (.isbIzx d) := of 0xE3 1 rfl rfl rfl
theorem cpxZp (d : Byte) : Statement (.cpxZp d) := of 0xE4 1 rfl rfl rfl
theorem sbcZp (d : Byte) : Statement (.sbcZp d) := of 0xE5 1 rfl rfl rfl
theorem incZp (d : Byte) : Statement (.incZp d) := of 0xE6 1 rfl rfl rfl
theorem isbZp (d : Byte) : Statement (.isbZp d) := of 0xE7 1 rfl rfl rfl
theorem inx : Statement .inx := of 0xE8 0 rfl rfl rfl
theorem sbcImm (d : Byte) : Statement (.sbcImm d) := of 0xE9 1 rfl rfl rfl
theorem nop : Statement .nop := of 0xEA 0 rfl rfl rfl
theorem sbcImmEB (d : Byte) : Statement (.sbcImmEB d) := of 0xEB 1 rfl rfl rfl
theorem cpxAbs (w : Word) : Statement (.cpxAbs w) := of 0xEC 2 rfl rfl rfl
theorem sbcAbs (w : Word) : Statement (.sbcAbs w) := of 0xED 2 rfl rfl rfl
theorem incAbs (w : Word) : Statement (.incAbs w) := of 0xEE 2 rfl rfl rfl
theorem isbAbs (w : Word) : Statement (.isbAbs w) := of 0xEF 2 rfl rfl rfl
theorem beq (d : Byte) : Statement (.beq d) := of 0xF0 1 rfl rfl rfl
theorem sbcIzy (d : Byte) : Statement (.sbcIzy d) := of 0xF1 1 rfl rfl rfl
theorem isbIzy (d : Byte) : Statement (.isbIzy d) := of 0xF3 1 rfl rfl rfl
theorem nopZpxF4 (d : Byte) : Statement (.nopZpxF4 d) := of 0xF4 1 rfl rfl rfl
theorem sbcZpx (d : Byte) : Statement (.sbcZpx d) := of 0xF5 1 rfl rfl rfl
theorem incZpx (d : Byte) : Statement (.incZpx d) := of 0xF6 1 rfl rfl rfl
theorem isbZpx (d : Byte) : Statement (.isbZpx d) := of 0xF7 1 rfl rfl rfl
theorem sed : Statement .sed := of 0xF8 0 rfl rfl rfl
theorem sbcAby (w : Word) : Statement (.sbcAby w) := of 0xF9 2 rfl rfl rfl
theorem nopFA : Statement .nopFA := of 0xFA 0 rfl rfl rfl
theorem isbAby (w : Word) : Statement (.isbAby w) := of 0xFB 2 rfl rfl rfl
theorem nopAbxFC (w : Word) : Statement (.nopAbxFC w) := of 0xFC 2 rfl rfl rfl
theorem sbcAbx (w : Word) : Statement (.sbcAbx w) := of 0xFD 2 rfl rfl rfl
theorem incAbx (w : Word) : Statement (.incAbx w) := of 0xFE 2 rfl rfl rfl
theorem isbAbx (w : Word) : Statement (.isbAbx w) := of 0xFF 2 rfl rfl rfl

/-- The statement holds of every instruction. -/
theorem every (i : Instr) : Statement i :=
  match i with
  | .brk => brk
  | .oraIzx d => oraIzx d
  | .sloIzx d => sloIzx d
  | .nopZp04 d => nopZp04 d
  | .oraZp d => oraZp d
  | .aslZp d => aslZp d
  | .sloZp d => sloZp d
  | .php => php
  | .oraImm d => oraImm d
  | .aslAcc => aslAcc
  | .nopAbs0C w => nopAbs0C w
  | .oraAbs w => oraAbs w
  | .aslAbs w => aslAbs w
  | .sloAbs w => sloAbs w
  | .bpl d => bpl d
  | .oraIzy d => oraIzy d
  | .sloIzy d => sloIzy d
  | .nopZpx14 d => nopZpx14 d
  | .oraZpx d => oraZpx d
  | .aslZpx d => aslZpx d
  | .sloZpx d => sloZpx d
  | .clc => clc
  | .oraAby w => oraAby w
  | .nop1A => nop1A
  | .sloAby w => sloAby w
  | .nopAbx1C w => nopAbx1C w
  | .oraAbx w => oraAbx w
  | .aslAbx w => aslAbx w
  | .sloAbx w => sloAbx w
  | .jsr w => jsr w
  | .andIzx d => andIzx d
  | .rlaIzx d => rlaIzx d
  | .bitZp d => bitZp d
  | .andZp d => andZp d
  | .rolZp d => rolZp d
  | .rlaZp d => rlaZp d
  | .plp => plp
  | .andImm d => andImm d
  | .rolAcc => rolAcc
  | .bitAbs w => bitAbs w
  | .andAbs w => andAbs w
  | .rolAbs w => rolAbs w
  | .rlaAbs w => rlaAbs w
  | .bmi d => bmi d
  | .andIzy d => andIzy d
  | .rlaIzy d => rlaIzy d
  | .nopZpx34 d => nopZpx34 d
  | .andZpx d => andZpx d
  | .rolZpx d => rolZpx d
  | .rlaZpx d => rlaZpx d
  | .sec => sec
  | .andAby w => andAby w
  | .nop3A => nop3A
  | .rlaAby w => rlaAby w
  | .nopAbx3C w => nopAbx3C w
  | .andAbx w => andAbx w
  | .rolAbx w => rolAbx w
  | .rlaAbx w => rlaAbx w
  | .rti => rti
  | .eorIzx d => eorIzx d
  | .sreIzx d => sreIzx d
  | .nopZp44 d => nopZp44 d
  | .eorZp d => eorZp d
  | .lsrZp d => lsrZp d
  | .sreZp d => sreZp d
  | .pha => pha
  | .eorImm d => eorImm d
  | .lsrAcc => lsrAcc
  | .jmpAbs w => jmpAbs w
  | .eorAbs w => eorAbs w
  | .lsrAbs w => lsrAbs w
  | .sreAbs w => sreAbs w
  | .bvc d => bvc d
  | .eorIzy d => eorIzy d
  | .sreIzy d => sreIzy d
  | .nopZpx54 d => nopZpx54 d
  | .eorZpx d => eorZpx d
  | .lsrZpx d => lsrZpx d
  | .sreZpx d => sreZpx d
  | .cli => cli
  | .eorAby w => eorAby w
  | .nop5A => nop5A
  | .sreAby w => sreAby w
  | .nopAbx5C w => nopAbx5C w
  | .eorAbx w => eorAbx w
  | .lsrAbx w => lsrAbx w
  | .sreAbx w => sreAbx w
  | .rts => rts
  | .adcIzx d => adcIzx d
  | .rraIzx d => rraIzx d
  | .nopZp64 d => nopZp64 d
  | .adcZp d => adcZp d
  | .rorZp d => rorZp d
  | .rraZp d => rraZp d
  | .pla => pla
  | .adcImm d => adcImm d
  | .rorAcc => rorAcc
  | .jmpInd w => jmpInd w
  | .adcAbs w => adcAbs w
  | .rorAbs w => rorAbs w
  | .rraAbs w => rraAbs w
  | .bvs d => bvs d
  | .adcIzy d => adcIzy d
  | .rraIzy d => rraIzy d
  | .nopZpx74 d => nopZpx74 d
  | .adcZpx d => adcZpx d
  | .rorZpx d => rorZpx d
  | .rraZpx d => rraZpx d
  | .sei => sei
  | .adcAby w => adcAby w
  | .nop7A => nop7A
  | .rraAby w => rraAby w
  | .nopAbx7C w => nopAbx7C w
  | .adcAbx w => adcAbx w
  | .rorAbx w => rorAbx w
  | .rraAbx w => rraAbx w
  | .nopImm80 d => nopImm80 d
  | .staIzx d => staIzx d
  | .saxIzx d => saxIzx d
  | .styZp d => styZp d
  | .staZp d => staZp d
  | .stxZp d => stxZp d
  | .saxZp d => saxZp d
  | .dey => dey
  | .txa => txa
  | .styAbs w => styAbs w
  | .staAbs w => staAbs w
  | .stxAbs w => stxAbs w
  | .saxAbs w => saxAbs w
  | .bcc d => bcc d
  | .staIzy d => staIzy d
  | .styZpx d => styZpx d
  | .staZpx d => staZpx d
  | .stxZpy d => stxZpy d
  | .saxZpy d => saxZpy d
  | .tya => tya
  | .staAby w => staAby w
  | .txs => txs
  | .staAbx w => staAbx w
  | .ldyImm d => ldyImm d
  | .ldaIzx d => ldaIzx d
  | .ldxImm d => ldxImm d
  | .laxIzx d => laxIzx d
  | .ldyZp d => ldyZp d
  | .ldaZp d => ldaZp d
  | .ldxZp d => ldxZp d
  | .laxZp d => laxZp d
  | .tay => tay
  | .ldaImm d => ldaImm d
  | .tax => tax
  | .ldyAbs w => ldyAbs w
  | .ldaAbs w => ldaAbs w
  | .ldxAbs w => ldxAbs w
  | .laxAbs w => laxAbs w
  | .bcs d => bcs d
  | .ldaIzy d => ldaIzy d
  | .laxIzy d => laxIzy d
  | .ldyZpx d => ldyZpx d
  | .ldaZpx d => ldaZpx d
  | .ldxZpy d => ldxZpy d
  | .laxZpy d => laxZpy d
  | .clv => clv
  | .ldaAby w => ldaAby w
  | .tsx => tsx
  | .ldyAbx w => ldyAbx w
  | .ldaAbx w => ldaAbx w
  | .ldxAby w => ldxAby w
  | .laxAby w => laxAby w
  | .cpyImm d => cpyImm d
  | .cmpIzx d => cmpIzx d
  | .dcpIzx d => dcpIzx d
  | .cpyZp d => cpyZp d
  | .cmpZp d => cmpZp d
  | .decZp d => decZp d
  | .dcpZp d => dcpZp d
  | .iny => iny
  | .cmpImm d => cmpImm d
  | .dex => dex
  | .cpyAbs w => cpyAbs w
  | .cmpAbs w => cmpAbs w
  | .decAbs w => decAbs w
  | .dcpAbs w => dcpAbs w
  | .bne d => bne d
  | .cmpIzy d => cmpIzy d
  | .dcpIzy d => dcpIzy d
  | .nopZpxD4 d => nopZpxD4 d
  | .cmpZpx d => cmpZpx d
  | .decZpx d => decZpx d
  | .dcpZpx d => dcpZpx d
  | .cld => cld
  | .cmpAby w => cmpAby w
  | .nopDA => nopDA
  | .dcpAby w => dcpAby w
  | .nopAbxDC w => nopAbxDC w
  | .cmpAbx w => cmpAbx w
  | .decAbx w => decAbx w
  | .dcpAbx w => dcpAbx w
  | .cpxImm d => cpxImm d
  | .sbcIzx d => sbcIzx d
  | .isbIzx d => isbIzx d
  | .cpxZp d => cpxZp d
  | .sbcZp d => sbcZp d
  | .incZp d => incZp d
  | .isbZp d => isbZp d
  | .inx => inx
  | .sbcImm d => sbcImm d
  | .nop => nop
  | .sbcImmEB d => sbcImmEB d
  | .cpxAbs w => cpxAbs w
  | .sbcAbs w => sbcAbs w
  | .incAbs w => incAbs w
  | .isbAbs w => isbAbs w
  | .beq d => beq d
  | .sbcIzy d => sbcIzy d
  | .isbIzy d => isbIzy d
  | .nopZpxF4 d => nopZpxF4 d
  | .sbcZpx d => sbcZpx d
  | .incZpx d => incZpx d
  | .isbZpx d => isbZpx d
  | .sed => sed
  | .sbcAby w => sbcAby w
  | .nopFA => nopFA
  | .isbAby w => isbAby w
  | .nopAbxFC w => nopAbxFC w
  | .sbcAbx w => sbcAbx w
  | .incAbx w => incAbx w
  | .isbAbx w => isbAbx w

end Sys2Proof.Laws.EncodedLength
end

