-- ==== Sys2Proof/Laws/Ppu.lean ====
section
/-! SUPPORT. What a PPU tick can do, said once: it leaves the memories, the registers that ports write and
everything outside the PPU but the NMI latch and the cartridge alone; and which of its parts moves the cursor,
sets `vblank` or writes the pixel. -/

namespace Sys2Proof.Machine

/-- What no part of a PPU tick changes. -/
structure TickFrame (s t : State) : Prop where
  ram : t.ram = s.ram
  dma : t.dma = s.dma
  pad0 : t.pad0 = s.pad0
  pad1 : t.pad1 = s.pad1
  apu : t.apu = s.apu
  master : t.master = s.master
  cyc : t.cyc = s.cyc
  cfg : t.cfg = s.cfg
  sound : t.sound = s.sound
  oam : t.ppu.oam = s.ppu.oam
  nametable : t.ppu.nametable = s.ppu.nametable
  palette : t.ppu.palette = s.ppu.palette
  ctrl : t.ppu.ctrl = s.ppu.ctrl
  mask : t.ppu.mask = s.ppu.mask
  tramAddr : t.ppu.tramAddr = s.ppu.tramAddr
  fineX : t.ppu.fineX = s.ppu.fineX
  addrLatch : t.ppu.addrLatch = s.ppu.addrLatch
  dataBuffer : t.ppu.dataBuffer = s.ppu.dataBuffer
  oamAddr : t.ppu.oamAddr = s.ppu.oamAddr

theorem TickFrame.refl (s : State) : TickFrame s s :=
  ⟨rfl, rfl, rfl, rfl, rfl, rfl, rfl, rfl, rfl, rfl, rfl, rfl, rfl, rfl, rfl, rfl, rfl, rfl, rfl⟩

theorem TickFrame.trans {s t u : State} (h : TickFrame s t) (k : TickFrame t u) : TickFrame s u :=
  ⟨k.ram.trans h.ram, k.dma.trans h.dma, k.pad0.trans h.pad0, k.pad1.trans h.pad1, k.apu.trans h.apu,
    k.master.trans h.master, k.cyc.trans h.cyc, k.cfg.trans h.cfg, k.sound.trans h.sound, k.oam.trans h.oam,
    k.nametable.trans h.nametable, k.palette.trans h.palette, k.ctrl.trans h.ctrl, k.mask.trans h.mask,
    k.tramAddr.trans h.tramAddr, k.fineX.trans h.fineX, k.addrLatch.trans h.addrLatch,
    k.dataBuffer.trans h.dataBuffer, k.oamAddr.trans h.oamAddr⟩

/-- What the work on a renderable line leaves alone beside `TickFrame`: the CPU, the cartridge, the pixel, the
cursor, the frame parity and the two race flags. -/
structure LineFrame (s t : State) : Prop where
  frame : TickFrame s t
  cpu : t.cpu = s.cpu
  cart : t.cart = s.cart
  pixel : t.pixel = s.pixel
  cycle : t.ppu.cycle = s.ppu.cycle
  scanline : t.ppu.scanline = s.ppu.scanline
  oddFrame : t.ppu.oddFrame = s.ppu.oddFrame
  readThis : t.ppu.statusReadThisTick = s.ppu.statusReadThisTick
  readLast : t.ppu.statusReadLastTick = s.ppu.statusReadLastTick

theorem LineFrame.refl (s : State) : LineFrame s s := ⟨TickFrame.refl s, rfl, rfl, rfl, rfl, rfl, rfl, rfl, rfl⟩

theorem LineFrame.trans {s t u : State} (h : LineFrame s t) (k : LineFrame t u) : LineFrame s u :=
  ⟨h.frame.trans k.frame, k.cpu.trans h.cpu, k.cart.trans h.cart, k.pixel.trans h.pixel, k.cycle.trans h.cycle,
    k.scanline.trans h.scanline, k.oddFrame.trans h.oddFrame, k.readThis.trans h.readThis,
    k.readLast.trans h.readLast⟩

/-- The parts of a line that also leave the three status flags alone. -/
structure QuietFrame (s t : State) : Prop where
  line : LineFrame s t
  vblank : t.ppu.vblank = s.ppu.vblank
  spr0Hit : t.ppu.spr0Hit = s.ppu.spr0Hit

theorem QuietFrame.trans {s t u : State} (h : QuietFrame s t) (k : QuietFrame t u) : QuietFrame s u :=
  ⟨h.line.trans k.line, k.vblank.trans h.vblank, k.spr0Hit.trans h.spr0Hit⟩

theorem pipelinePart_frame (s : State) : QuietFrame s (pipelinePart s) := by
  have hb : ∀ (u : State) (k : Nat), QuietFrame u (bgPhase u k) := by
    intro u k
    unfold bgPhase whenRendering
    repeat' split
    all_goals exact ⟨⟨(by constructor <;> rfl), rfl, rfl, rfl, rfl, rfl, rfl, rfl, rfl⟩, rfl, rfl⟩
  unfold pipelinePart
  split
  · refine QuietFrame.trans ?_ (hb _ _)
    unfold shiftSprites shiftBackground
    repeat' split
    all_goals exact ⟨⟨(by constructor <;> rfl), rfl, rfl, rfl, rfl, rfl, rfl, rfl, rfl⟩, rfl, rfl⟩
  · exact ⟨LineFrame.refl s, rfl, rfl⟩

theorem incrementYPart_frame (s : State) : QuietFrame s (incrementYPart s) := by
  unfold incrementYPart whenRendering
  repeat' split
  all_goals exact ⟨⟨(by constructor <;> rfl), rfl, rfl, rfl, rfl, rfl, rfl, rfl, rfl⟩, rfl, rfl⟩

theorem transferXPart_frame (s : State) : QuietFrame s (transferXPart s) := by
  unfold transferXPart whenRendering
  repeat' split
  all_goals exact ⟨⟨(by constructor <;> rfl), rfl, rfl, rfl, rfl, rfl, rfl, rfl, rfl⟩, rfl, rfl⟩

theorem transferYPart_frame (s : State) : QuietFrame s (transferYPart s) := by
  unfold transferYPart whenRendering
  repeat' split
  all_goals exact ⟨⟨(by constructor <;> rfl), rfl, rfl, rfl, rfl, rfl, rfl, rfl, rfl⟩, rfl, rfl⟩

theorem evaluationPart_frame (s : State) : QuietFrame s (evaluationPart s) := by
  unfold evaluationPart
  split <;> exact ⟨⟨(by constructor <;> rfl), rfl, rfl, rfl, rfl, rfl, rfl, rfl, rfl⟩, rfl, rfl⟩

theorem fetchPart_frame (s : State) : QuietFrame s (fetchPart s) := by
  unfold fetchPart
  split <;> exact ⟨⟨(by constructor <;> rfl), rfl, rfl, rfl, rfl, rfl, rfl, rfl, rfl⟩, rfl, rfl⟩

/-- The parts after the clear, together. -/
theorem afterClear_frame (s : State) :
    QuietFrame s (fetchPart <| evaluationPart <| transferYPart <| transferXPart <| incrementYPart <|
      pipelinePart s) :=
  (pipelinePart_frame s).trans <| (incrementYPart_frame _).trans <| (transferXPart_frame _).trans <|
    (transferYPart_frame _).trans <| (evaluationPart_frame _).trans (fetchPart_frame _)

theorem clearPart_frame (s : State) : LineFrame s (clearPart s) := by
  unfold clearPart
  split <;> exact ⟨(by constructor <;> rfl), rfl, rfl, rfl, rfl, rfl, rfl, rfl, rfl⟩

theorem clearPart_vblank (s : State) :
    (clearPart s).ppu.vblank = (s.ppu.vblank && !decide (s.ppu.scanline = -1 ∧ s.ppu.cycle = 1)) := by
  unfold clearPart
  split
  · rename_i h
    simp [frameStartClear, h]
  · rename_i h
    simp [h]

/-- The odd-frame skip touches the cycle only. -/
theorem oddFrameSkip_cases (p : Ppu) :
    (oddFrameSkip p = { p with cycle := 1 } ∧ p.scanline = 0 ∧ p.cycle = 0) ∨ oddFrameSkip p = p := by
  unfold oddFrameSkip
  split
  · rename_i h
    exact .inl ⟨rfl, h.1, h.2.1⟩
  · exact .inr rfl

/-- The work on a line from the state after the skip. -/
theorem renderLine_frame (s : State) : LineFrame { s with ppu := oddFrameSkip s.ppu } (renderLine s) :=
  (clearPart_frame _).trans (afterClear_frame _).line

/-- The work on a line leaves `vblank` alone but on the first dot of the pre-render line. -/
theorem renderLine_vblank (s : State) :
    (renderLine s).ppu.vblank = (s.ppu.vblank && !decide (s.ppu.scanline = -1 ∧ s.ppu.cycle = 1)) := by
  refine (afterClear_frame _).vblank.trans ((clearPart_vblank _).trans ?_)
  rcases oddFrameSkip_cases s.ppu with ⟨h, hs, hc⟩ | h
  · simp [h, hs]
  · simp [h]

theorem scanlineHook_frame (s : State) :
    TickFrame s (scanlineHook s) ∧ (scanlineHook s).cpu = s.cpu ∧ (scanlineHook s).ppu = s.ppu ∧
      (scanlineHook s).pixel = s.pixel := by
  unfold scanlineHook
  split <;> exact ⟨(by constructor <;> rfl), rfl, rfl, rfl⟩

theorem vblankPart_frame (s : State) :
    TickFrame s (vblankPart s) ∧ (vblankPart s).cart = s.cart ∧ (vblankPart s).pixel = s.pixel ∧
      (vblankPart s).ppu = { s.ppu with vblank := (vblankPart s).ppu.vblank } := by
  unfold vblankPart vblankStart
  repeat' split
  all_goals exact ⟨(by constructor <;> rfl), rfl, rfl, rfl⟩

theorem pixelPart_frame (s : State) :
    TickFrame s (pixelPart s) ∧ (pixelPart s).cpu = s.cpu ∧ (pixelPart s).cart = s.cart ∧
      (pixelPart s).ppu = { s.ppu with spr0Hit := (pixelPart s).ppu.spr0Hit } := by
  unfold pixelPart outputPixel
  split <;> exact ⟨(by constructor <;> rfl), rfl, rfl, rfl⟩

/-- A whole PPU tick keeps what no part of it changes. -/
theorem ppuTick_frame (s : State) : TickFrame s (ppuTick s) := by
  have hcur : ∀ u : State, TickFrame u { u with ppu := advanceCursor u.ppu } := by
    intro u
    unfold advanceCursor
    repeat' split
    all_goals exact (by constructor <;> rfl)
  have hskip : ∀ u : State, TickFrame u { u with ppu := oddFrameSkip u.ppu } := by
    intro u
    rcases oddFrameSkip_cases u.ppu with ⟨h, -⟩ | h <;> rw [h] <;> exact (by constructor <;> rfl)
  have hline : ∀ u : State, TickFrame u (renderPart u) := by
    intro u
    unfold renderPart
    split
    · exact (hskip u).trans (renderLine_frame u).frame
    · exact TickFrame.refl u
  have hstart : TickFrame s { s with ppu := moveRaceFlags s.ppu, pixel := none } := (by constructor <;> rfl)
  exact hstart.trans <| (scanlineHook_frame _).1.trans <| (hline _).trans <| (vblankPart_frame _).1.trans <|
    (pixelPart_frame _).1.trans (hcur _)

/-! ### The cursor -/

/-- The state in which the parts of a tick begin. -/
def tickStart (s : State) : State := scanlineHook { s with ppu := moveRaceFlags s.ppu, pixel := none }

theorem tickStart_ppu (s : State) : (tickStart s).ppu = moveRaceFlags s.ppu ∧ (tickStart s).cpu = s.cpu :=
  ⟨(scanlineHook_frame _).2.2.1, (scanlineHook_frame _).2.1⟩

/-- A tick as its parts after the start. -/
theorem ppuTick_eq (s : State) :
    ppuTick s =
      { pixelPart (vblankPart (renderPart (tickStart s))) with
        ppu := advanceCursor (pixelPart (vblankPart (renderPart (tickStart s)))).ppu } := rfl

/-- The cursor advance touches the cursor and the parity only. -/
theorem advanceCursor_other (p : Ppu) :
    (advanceCursor p).vblank = p.vblank ∧ (advanceCursor p).statusReadLastTick = p.statusReadLastTick ∧
      (advanceCursor p).statusReadThisTick = p.statusReadThisTick := by
  unfold advanceCursor
  repeat' split
  all_goals exact ⟨rfl, rfl, rfl⟩

/-- Rendering lines or not, everything but the picture is as before, after the odd-frame skip. -/
theorem renderPart_frame (s : State) :
    ∃ p : Ppu, (p = s.ppu ∨ p = oddFrameSkip s.ppu) ∧ LineFrame { s with ppu := p } (renderPart s) := by
  unfold renderPart
  split
  · exact ⟨_, .inr rfl, renderLine_frame s⟩
  · exact ⟨_, .inl rfl, LineFrame.refl _⟩

/-- The odd-frame skip moves the cycle only. -/
theorem oddFrameSkip_other (p : Ppu) :
    (oddFrameSkip p).scanline = p.scanline ∧ (oddFrameSkip p).oddFrame = p.oddFrame := by
  rcases oddFrameSkip_cases p with ⟨h, -⟩ | h <;> rw [h] <;> exact ⟨rfl, rfl⟩

/-- The cursor from which a tick advances: the one found, after the odd-frame skip. -/
theorem ppuTick_cursor (s : State) :
    ∃ q : Ppu, (ppuTick s).ppu = advanceCursor q ∧ q.cycle = (oddFrameSkip s.ppu).cycle ∧
      q.scanline = s.ppu.scanline ∧ q.oddFrame = s.ppu.oddFrame := by
  refine ⟨_, by rw [ppuTick_eq], ?_⟩
  rw [(pixelPart_frame _).2.2.2, (vblankPart_frame _).2.2.2]
  have hp := (tickStart_ppu s).1
  have hskip : (oddFrameSkip (moveRaceFlags s.ppu)).cycle = (oddFrameSkip s.ppu).cycle := by
    unfold oddFrameSkip
    simp only [apply_ite Ppu.cycle]
    rfl
  by_cases hl : -1 ≤ s.ppu.scanline ∧ s.ppu.scanline ≤ 239
  · have hr : renderPart (tickStart s) = renderLine (tickStart s) := by
      unfold renderPart
      rw [hp]
      exact if_pos hl
    have hf := renderLine_frame (tickStart s)
    rw [hp] at hf
    rw [hr]
    have ho := oddFrameSkip_other (moveRaceFlags s.ppu)
    exact ⟨hf.cycle.trans hskip, hf.scanline.trans ho.1, hf.oddFrame.trans ho.2⟩
  · have hr : renderPart (tickStart s) = tickStart s := by
      unfold renderPart
      rw [hp]
      exact if_neg hl
    have hs : oddFrameSkip s.ppu = s.ppu := by
      unfold oddFrameSkip
      rw [if_neg (by omega)]
    rw [hr, hp, hs]
    exact ⟨rfl, rfl, rfl⟩

/-- After its start a tick leaves the cartridge alone. -/
theorem ppuTick_cart (s : State) : (ppuTick s).cart = (tickStart s).cart := by
  rw [ppuTick_eq]
  obtain ⟨_, _, h⟩ := renderPart_frame (tickStart s)
  exact (pixelPart_frame _).2.2.1.trans ((vblankPart_frame _).2.1.trans h.cart)

/-! ### A tick on a renderable line and elsewhere -/

/-- A PPU bus read depends on the cartridge, the configuration, nametable RAM and palette RAM only. -/
theorem ppuRead_congr {s t : State} (hcart : t.cart = s.cart) (hcfg : t.cfg = s.cfg)
    (hnt : t.ppu.nametable = s.ppu.nametable) (hpal : t.ppu.palette = s.ppu.palette) (a : PpuAddr) :
    ppuRead t a = ppuRead s a := by
  unfold ppuRead
  rw [hcart, hcfg, hnt, hpal]

/-- No part of a line changes what the PPU bus reads. -/
theorem LineFrame.ppuRead {s t : State} (h : LineFrame s t) (a : PpuAddr) : ppuRead t a = ppuRead s a :=
  ppuRead_congr h.cart h.frame.cfg h.frame.nametable h.frame.palette a

/-- On a renderable line a tick is the line's work, the pixel and the cursor's advance (rule R400). -/
theorem ppuTick_renderable {s : State} (h : -1 ≤ s.ppu.scanline ∧ s.ppu.scanline ≤ 239) :
    ppuTick s =
      { pixelPart (renderLine (tickStart s)) with
        ppu := advanceCursor (pixelPart (renderLine (tickStart s))).ppu } := by
  have hp := (tickStart_ppu s).1
  have hline : (renderLine (tickStart s)).ppu.scanline = s.ppu.scanline := by
    rw [(renderLine_frame _).scanline, hp]
    rcases oddFrameSkip_cases (moveRaceFlags s.ppu) with ⟨e, -⟩ | e <;> rw [e] <;> rfl
  have hrender : renderPart (tickStart s) = renderLine (tickStart s) := by
    unfold renderPart
    rw [hp]
    exact if_pos h
  have hvblank : vblankPart (renderLine (tickStart s)) = renderLine (tickStart s) := by
    unfold vblankPart
    rw [if_neg (by omega)]
  rw [ppuTick_eq, hrender, hvblank]

/-- On any other line a tick is the start of vblank, if that is due, and the cursor's advance (rule R400). -/
theorem ppuTick_elsewhere {s : State} (h : ¬ (-1 ≤ s.ppu.scanline ∧ s.ppu.scanline ≤ 239)) :
    ppuTick s =
      { vblankPart (tickStart s) with ppu := advanceCursor (vblankPart (tickStart s)).ppu } := by
  have hp := (tickStart_ppu s).1
  have hrender : renderPart (tickStart s) = tickStart s := by
    unfold renderPart
    rw [hp]
    exact if_neg h
  have hline : (vblankPart (tickStart s)).ppu.scanline = s.ppu.scanline := by
    rw [(vblankPart_frame _).2.2.2, hp]
    rfl
  have hpixel : pixelPart (vblankPart (tickStart s)) = vblankPart (tickStart s) := by
    unfold pixelPart
    rw [if_neg (by omega)]
  rw [ppuTick_eq, hrender, hpixel]

end Sys2Proof.Machine
end

