-- ==== Sys2Proof/Laws/Stack.lean ====
section
/-! SUPPORT. Accesses to the stack page where the cartridge leaves it to work RAM, and reads of memory addresses
on a machine with a board. -/

namespace Sys2Proof.Machine

/-! ### The stack page -/

theorem ramIndex_stackAddr (sp : Byte) : ramIndex (stackAddr sp) = 256 + sp.toNat := by
  have := sp.isLt
  rw [ramIndex, stackAddr_toNat, Config.ramSize]
  omega

theorem stack_write {s : State} (h : stackIsRam s) (sp v : Byte) :
    memWrite s (stackAddr sp) v = { s with ram := s.ram.write (256 + sp.toNat) v } := by
  have := sp.isLt
  unfold memWrite consoleWrite
  rw [(h sp).2 v, ramIndex_stackAddr, stackAddr_toNat]
  simp only [show 256 + sp.toNat < 0x2000 by omega, if_true]

theorem stack_effects {s : State} (h : stackIsRam s) (sp : Byte) : readEffects s (stackAddr sp) = s := by
  have := sp.isLt
  unfold readEffects consoleReadEffects
  rw [(h sp).1, stackAddr_toNat]
  simp only [show 256 + sp.toNat < 0x2000 by omega, if_true]
  rfl

theorem stack_peek {s : State} (h : stackIsRam s) (sp : Byte) :
    peek s (stackAddr sp) = s.ram.read (256 + sp.toNat) := by
  have := sp.isLt
  unfold peek tryRead consoleTryRead
  rw [(h sp).1, ramIndex_stackAddr, stackAddr_toNat]
  simp only [show 256 + sp.toNat < 0x2000 by omega, if_true]
  rfl

theorem stackIsRam_congr {s t : State} (h : stackIsRam s) (hc : t.cart = s.cart) : stackIsRam t := by
  intro sp
  have := h sp
  unfold declines at *
  rw [hc]
  exact this

/-- A second write to the stack page, after a first that changed work RAM only. -/
theorem stack_write_ram {s : State} (h : stackIsRam s) (m : Memory) (sp v : Byte) :
    memWrite { s with ram := m } (stackAddr sp) v = { s with ram := m.write (256 + sp.toNat) v } :=
  stack_write (s := { s with ram := m }) (stackIsRam_congr h rfl) sp v

/-! ### A machine with a board -/

/-- Reading a board has no effect on the board. -/
theorem readEffects_board {s : State} {b : Board} (h : s.cart = .board b) (a : Word) :
    (readEffects s a).cart = .board b := by
  rcases readEffects_cases s a with ⟨v, -, e⟩ | ⟨-, ⟨-, -, -, e⟩ | ⟨-, e⟩ | ⟨-, e⟩ | ⟨-, e⟩ | ⟨-, e⟩⟩ <;> rw [e]
  · simp [h, Cart.readEffects]
  · obtain ⟨p, hp, -⟩ := portReadEffects_ppu s (a.toNat % 8)
    rw [hp]
    exact h
  all_goals exact h

/-- Reading an address that the board claims, or that lies outside the PPU ports and the APU and controller
registers, changes nothing. -/
theorem readEffects_board_quiet {s : State} {b : Board} (h : s.cart = .board b) {a : Word}
    (ha : a.toNat < 0x2000 ∨ 0x4018 ≤ a.toNat) : readEffects s a = s := by
  rcases readEffects_cases s a with ⟨v, -, e⟩ |
      ⟨-, ⟨h1, h2, -, e⟩ | ⟨h1, e⟩ | ⟨h1, e⟩ | ⟨h1, e⟩ | ⟨h1, e⟩⟩
  · rw [e, h]
    simp only [Cart.readEffects]
    rw [← h]
  · omega
  · omega
  · omega
  · omega
  · exact e

/-- The byte at a memory address of a machine with a board. -/
theorem peek_board {s : State} {b : Board} (h : s.cart = .board b) {a : Word}
    (ha : a.toNat < 0x2000 ∨ b.claimsCpu a = true) :
    peek s a = if b.claimsCpu a then b.cpu.read a.toNat else s.ram.read (ramIndex a) := by
  unfold peek tryRead
  rw [h]
  unfold Cart.cpuTryRead
  by_cases hc : b.claimsCpu a = true
  · simp [hc]
  · rcases ha with ha | ha
    · simp [hc, consoleTryRead, ha]
    · exact absurd ha hc

end Sys2Proof.Machine
end

