-- ==== Sys2Proof/Laws/Tick.lean ====
section
/-! SUPPORT. What a fetch, a CPU tick and a master tick can do, said once: their inversion lemmas, and the
equations of the reset procedure. -/

namespace Sys2Proof.Machine

/-! ### Fetch -/

/-- `PC` one higher, then `n` higher. -/
theorem add_one_ofNat (pc : Word) (n : Nat) : pc + 1#16 + BitVec.ofNat 16 n = pc + BitVec.ofNat 16 (n + 1) := by
  apply BitVec.eq_of_toNat_eq
  simp only [BitVec.toNat_add, BitVec.toNat_ofNat]
  omega

/-- A fetch of `n` bytes moves `PC` only, apart from the reads' side effects. -/
theorem fetchBytes_cpu (n : Nat) (s : State) :
    (fetchBytes n s).2.cpu = { s.cpu with pc := s.cpu.pc + BitVec.ofNat 16 n } := by
  induction n generalizing s with
  | zero => simp [fetchBytes]
  | succ n ih =>
    simp [fetchBytes, ih, fetchByte_snd, add_one_ofNat]

/-- A fetch of an instruction leaves the CPU as it was, with `PC` past the instruction. -/
theorem fetchInstr_cpu (s : State) :
    (fetchInstr s).2.cpu =
      { s.cpu with pc := s.cpu.pc + BitVec.ofNat 16 (operandCount (peek s s.cpu.pc) + 1) } := by
  simp [fetchInstr, fetchBytes_cpu, fetchByte_snd, add_one_ofNat]

/-- A fetch of bytes reads only. -/
theorem fetchBytes_frame (n : Nat) (s : State) : ReadFrame s (fetchBytes n s).2 := by
  induction n generalizing s with
  | zero => exact ReadFrame.refl s
  | succ n ih =>
    refine ReadFrame.trans ?_ (ih _)
    rw [fetchByte_snd]
    exact (readEffects_frame s _).withCpu _

/-- A fetch of an instruction reads only. -/
theorem fetchInstr_frame (s : State) : ReadFrame s (fetchInstr s).2 := by
  refine ReadFrame.trans ?_ (fetchBytes_frame _ _)
  rw [fetchByte_snd]
  exact (readEffects_frame s _).withCpu _

/-- The length of a fetch. -/
@[simp] theorem fetchBytes_length (n : Nat) (s : State) : (fetchBytes n s).1.length = n := by
  induction n generalizing s with
  | zero => rfl
  | succ n ih => simp [fetchBytes, ih]

/-- The bytes fetched begin with the opcode byte and are as many as it asks for. -/
theorem fetchInstr_bytes (s : State) :
    ∃ rest, (fetchInstr s).1 = peek s s.cpu.pc :: rest ∧ rest.length = operandCount (peek s s.cpu.pc) :=
  ⟨_, rfl, fetchBytes_length _ _⟩

/-- `decode` never runs out of bytes on what the fetch has read. -/
theorem decode_fetched (s : State) :
    (∃ i, decode (fetchInstr s).1 = .ok (i, [])) ∨
    (decode (fetchInstr s).1 = .error (.undefinedOpcode (peek s s.cpu.pc)) ∧ entryOf (peek s s.cpu.pc) = .none) := by
  obtain ⟨rest, hb, hl⟩ := fetchInstr_bytes s
  rw [hb]
  unfold operandCount at hl
  cases he : entryOf (peek s s.cpu.pc) with
  | none => exact .inr ⟨by simp [decode, he], rfl⟩
  | f1 i =>
    simp only [he, List.length_eq_zero_iff] at hl
    subst hl
    exact .inl ⟨i, by simp [decode, he]⟩
  | f2 f =>
    simp only [he] at hl
    match rest, hl with
    | [d], _ => exact .inl ⟨f d, by simp [decode, he]⟩
  | f3 f =>
    simp only [he] at hl
    match rest, hl with
    | [b1, b2], _ => exact .inl ⟨f (assemble16 b1 b2), by simp [decode, he]⟩

/-- The fetch branch either executes a decoded, admitted instruction or faults (rules R300, R301). -/
theorem fetchExecute_cases (s : State) :
    (∃ i t, decode (fetchInstr s).1 = .ok (i, []) ∧ i.wellFormed s.cfg = true ∧ exec i (fetchInstr s).2 = .next t ∧
        fetchExecute s = .next t) ∨
    (fetchExecute s = .fault (.unknownOpcode (peek s s.cpu.pc) s.cpu.pc s)) := by
  rcases decode_fetched s with ⟨i, hi⟩ | ⟨hi, -⟩
  · by_cases hw : i.wellFormed s.cfg = true
    · obtain ⟨t, ht⟩ := exec_next i (fetchInstr s).2
      exact .inl ⟨i, t, hi, hw, ht, by simp [fetchExecute, hi, hw, ht]⟩
    · exact .inr (by simp [fetchExecute, hi, hw, unknownOpcode])
  · exact .inr (by simp [fetchExecute, hi, unknownOpcode])

/-! ### The CPU tick -/

/-- The four branches of a CPU tick, in priority order (rule R300). -/
theorem cpuTick_cases (s : State) :
    (0 < s.cpu.waitCycles ∧ cpuTick s = .next (setWait s (s.cpu.waitCycles - 1))) ∨
    (s.cpu.waitCycles = 0 ∧ s.cpu.nmiLatch = true ∧ cpuTick s = .next (serviceNmi s)) ∨
    (s.cpu.waitCycles = 0 ∧ s.cpu.nmiLatch = false ∧ s.cpu.irqLatch = true ∧ s.cpu.i = false ∧
      cpuTick s = .next (serviceIrq s)) ∨
    (s.cpu.waitCycles = 0 ∧ s.cpu.nmiLatch = false ∧ (s.cpu.irqLatch = false ∨ s.cpu.i = true) ∧
      cpuTick s = fetchExecute s) := by
  unfold cpuTick
  by_cases hw : s.cpu.waitCycles > 0
  · exact .inl ⟨hw, by simp [hw]⟩
  have hw0 : s.cpu.waitCycles = 0 := by omega
  cases hn : s.cpu.nmiLatch with
  | true => exact .inr (.inl ⟨hw0, rfl, by simp [hw0]⟩)
  | false =>
    cases hq : s.cpu.irqLatch with
    | false => exact .inr (.inr (.inr ⟨hw0, rfl, .inl rfl, by simp [hw0]⟩))
    | true =>
      cases hi : s.cpu.i with
      | true => exact .inr (.inr (.inr ⟨hw0, rfl, .inr rfl, by simp [hw0]⟩))
      | false => exact .inr (.inr (.inl ⟨hw0, rfl, rfl, rfl, by simp [hw0]⟩))

/-- The CPU registers after an interrupt entry (rule R303). -/
theorem interruptEntry_cpu (s : State) (vector : Word) :
    ∃ target, (interruptEntry s vector).cpu =
      { s.cpu with s := s.cpu.s - 3, i := true, b := false, pc := target, waitCycles := 6 } := by
  unfold interruptEntry
  rw [enterHandler_eq]
  exact ⟨_, rfl⟩

/-! ### What a CPU tick and a DMA step leave alone -/

theorem WriteFrame.trans {s t u : State} (h : WriteFrame s t) (k : WriteFrame t u) : WriteFrame s u :=
  ⟨k.master.trans h.master, k.cyc.trans h.cyc, k.cfg.trans h.cfg, k.pixel.trans h.pixel, k.sound.trans h.sound⟩

theorem ReadFrame.toWrite {s t : State} (h : ReadFrame s t) : WriteFrame s t :=
  ⟨h.master, h.cyc, h.cfg, h.pixel, h.sound⟩

/-- Register updates, bus reads and bus writes keep the counters, the configuration and the outputs. -/
theorem writeFrame_closed (s : State) : BusClosed (WriteFrame s) where
  cpu := fun _ _ h => ⟨h.master, h.cyc, h.cfg, h.pixel, h.sound⟩
  read := fun u a h => h.trans (readEffects_frame u a).toWrite
  write := fun u a v h => h.trans (memWrite_frame u a v)

/-- Executing an instruction keeps the counters, the configuration and the outputs. -/
theorem exec_writeFrame {i : Instr} {s t : State} (h : exec i s = .next t) : WriteFrame s t :=
  (writeFrame_closed s).exec h (ReadFrame.refl s).toWrite

/-- A CPU tick keeps the counters, the configuration and the outputs. -/
theorem cpuTick_writeFrame {s t : State} (h : cpuTick s = .next t) : WriteFrame s t := by
  have hentry : ∀ v, WriteFrame s (interruptEntry s v) := fun v =>
    (writeFrame_closed s).cpu _ _ ((writeFrame_closed s).enterHandler _ _ _ (ReadFrame.refl s).toWrite)
  rcases cpuTick_cases s with ⟨-, e⟩ | ⟨-, -, e⟩ | ⟨-, -, -, -, e⟩ | ⟨-, -, -, e⟩ <;> rw [e] at h
  · cases h
    exact ⟨rfl, rfl, rfl, rfl, rfl⟩
  · cases h
    obtain ⟨h1, h2, h3, h4, h5⟩ := hentry Config.nmiVector
    exact ⟨h1, h2, h3, h4, h5⟩
  · cases h
    obtain ⟨h1, h2, h3, h4, h5⟩ := hentry Config.irqVector
    exact ⟨h1, h2, h3, h4, h5⟩
  · rcases fetchExecute_cases s with ⟨i, u, -, -, hu, e'⟩ | e' <;> rw [e'] at h
    · cases h
      exact (fetchInstr_frame s).toWrite.trans (exec_writeFrame hu)
    · cases h

/-- A DMA step leaves the CPU, work RAM, the counters, the configuration and the outputs alone. -/
theorem dmaStep_frame (s : State) :
    WriteFrame s (dmaStep s) ∧ (dmaStep s).cpu = s.cpu ∧ (dmaStep s).ram = s.ram := by
  unfold dmaStep dmaRead dmaWrite
  dsimp only
  split
  · exact ⟨⟨rfl, rfl, rfl, rfl, rfl⟩, rfl, rfl⟩
  split
  · have h := readEffects_frame { s with dma := { s.dma with dummy := false } } (hilo s.dma.page s.dma.addr)
    exact ⟨⟨h.master, h.cyc, h.cfg, h.pixel, h.sound⟩, readEffects_cpu _ _, h.ram⟩
  · exact ⟨⟨rfl, rfl, rfl, rfl, rfl⟩, rfl, rfl⟩

/-! ### The master tick -/

/-- A master tick answers a next state exactly when its CPU part does (rule R341). -/
theorem masterTick_next {s t : State} (h : masterTick s = .next t) :
    ∃ u, cpuPart (ppuPart s) = .next u ∧ t = finishTick u := by
  unfold masterTick at h
  cases hc : cpuPart (ppuPart s) with
  | next u =>
    rw [hc] at h
    cases h
    exact ⟨u, rfl, rfl⟩
  | fault r => rw [hc] at h; cases h
  | refused r => rw [hc] at h; cases h

/-- What the CPU or DMA part did when it answered a next state. -/
theorem cpuPart_next {s t : State} (h : cpuPart s = .next t) :
    (s.master % 3 ≠ 0 ∧ t = s) ∨
    (s.master % 3 = 0 ∧ s.dma.transfer = true ∧ t = { dmaStep s with cyc := (dmaStep s).cyc + 1 }) ∨
    (s.master % 3 = 0 ∧ s.dma.transfer = false ∧ ∃ u, cpuTick s = .next u ∧ t = { u with cyc := u.cyc + 1 }) := by
  unfold cpuPart Config.cpuDiv at h
  by_cases hm : s.master % 3 = 0
  · cases hd : s.dma.transfer with
    | true =>
      simp only [hm, hd, if_true] at h
      cases h
      exact .inr (.inl ⟨hm, rfl, rfl⟩)
    | false =>
      simp only [hm, hd, if_true, Bool.false_eq_true, if_false] at h
      cases hc : cpuTick s with
      | next u =>
        rw [hc] at h
        cases h
        exact .inr (.inr ⟨hm, rfl, u, rfl, rfl⟩)
      | fault r => rw [hc] at h; cases h
      | refused r => rw [hc] at h; cases h
  · simp only [hm, if_false] at h
    cases h
    exact .inl ⟨hm, rfl⟩

/-! ### Reset -/

/-- `State.reset` is the reset procedure applied to power-on with the default parameters, a cartridge that
declines everything and memories that nothing has written (rules R66, R500, R502). -/
theorem reset_eq_boot :
    State.reset =
      boot Config.standard (.board Board.empty) (.drawn 0) (.drawn 1) (.drawn 2) (.drawn 3) := by decide

end Sys2Proof.Machine
end

