-- ==== Sys2Proof/Tests/Slice0.lean ====
section
/-! SUPPORT. Tests.  Expected values are the spec's own: the vectors of spec/95_test_vectors.md, the worked
examples of its rules, and words written out from spec/30_encoding.md rule R119. -/

namespace Sys2Proof.Tests

open Sys2Proof.Machine

/-! ### Helpers -/

/-- Registers of a vector: `A X Y S P`. -/
structure Regs where
  a : Byte
  x : Byte
  y : Byte
  s : Byte
  p : Byte
  deriving DecidableEq, Repr

/-- A memory holding the given cells. -/
def memOf (cells : List (Nat × Byte)) : Memory := cells.foldl (fun m c => m.write c.1 c.2) .empty

/-- A machine after power-on and reset whose memories hold zeros and whose cartridge declines everything. -/
def blank : State := boot Config.standard (.board Board.empty) .empty .empty .empty .empty

/-- A machine at an instruction boundary whose bus is a flat 64 KB RAM (spec/95_test_vectors.md, conventions):
a board that claims every address. -/
def flat (pc : Word) (r : Regs) (mem : Memory) : State :=
  let s := State.powerOn Config.standard (.board { Board.empty with cpu := mem, cpuBase := 0, cpuWritable := true })
    .empty .empty .empty .empty
  { s with cpu := { s.cpu.setP r.p with a := r.a, x := r.x, y := r.y, s := r.s, pc := pc } }

/-- The flat memory of a machine made by `flat`. -/
def flatMemory (s : State) : Memory :=
  match s.cart with
  | .board b => b.cpu
  | .mapper _ => .empty

/-- The registers of a state. -/
def regsOf (s : State) : Regs := ⟨s.cpu.a, s.cpu.x, s.cpu.y, s.cpu.s, s.cpu.pbyte s.cpu.b⟩

/-- One vector: the bytes at `pc`, registers and memory before, registers, `PC`, changed memory and CPU ticks
after the fetch branch of the CPU tick. -/
def runs (pc : Word) (bytes : List Byte) (before : Regs) (mem : List (Nat × Byte)) (after : Regs) (pc' : Word)
    (changed : List (Nat × Byte)) (ticks : Nat) : Bool :=
  let m := (memOf mem).fill pc.toNat bytes
  match fetchExecute (flat pc before m) with
  | .next t =>
    regsOf t == after && t.cpu.pc == pc' && t.cpu.waitCycles + 1 == ticks &&
      flatMemory t == changed.foldl (fun m c => m.write c.1 c.2) m
  | .fault _ => false
  | .refused _ => false

/-! ### CPU vectors (spec/95_test_vectors.md section 2) -/

/-- Vectors of `LDA #$00`, `LDA #$80`, `LDA $1000,X`, `LDA $10FF,X`, `LDA $FFFF,X`, `LDA ($10),Y`, `LDA ($10),Y`, `LDA ($FF),Y`, `LDA ($FE,X)`, `LDA $F0,X` (rule R151). -/
theorem test_lda :
    runs 0xC000 [0xA9, 0x00] ⟨0x55, 0x00, 0x00, 0xFD, 0x24⟩ [] ⟨0x00, 0x00, 0x00, 0xFD, 0x26⟩ 0xC002 [] 2 = true ∧
    runs 0xC000 [0xA9, 0x80] ⟨0x00, 0x00, 0x00, 0xFD, 0x24⟩ [] ⟨0x80, 0x00, 0x00, 0xFD, 0xA4⟩ 0xC002 [] 2 = true ∧
    runs 0xC000 [0xBD, 0x00, 0x10] ⟨0x00, 0x01, 0x00, 0xFD, 0x24⟩ [(0x1001, 0x7F)] ⟨0x7F, 0x01, 0x00, 0xFD, 0x24⟩ 0xC003 [] 4 = true ∧
    runs 0xC000 [0xBD, 0xFF, 0x10] ⟨0x00, 0x01, 0x00, 0xFD, 0x24⟩ [(0x1100, 0x80)] ⟨0x80, 0x01, 0x00, 0xFD, 0xA4⟩ 0xC003 [] 5 = true ∧
    runs 0xC000 [0xBD, 0xFF, 0xFF] ⟨0x00, 0x02, 0x00, 0xFD, 0x24⟩ [(0x0001, 0x33)] ⟨0x33, 0x02, 0x00, 0xFD, 0x24⟩ 0xC003 [] 5 = true ∧
    runs 0xC000 [0xB1, 0x10] ⟨0x00, 0x00, 0x01, 0xFD, 0x24⟩ [(0x0010, 0xFF), (0x0011, 0x10), (0x1100, 0x42)] ⟨0x42, 0x00, 0x01, 0xFD, 0x24⟩ 0xC002 [] 6 = true ∧
    runs 0xC000 [0xB1, 0x10] ⟨0x00, 0x00, 0x01, 0xFD, 0x24⟩ [(0x0010, 0x00), (0x0011, 0x10), (0x1001, 0x42)] ⟨0x42, 0x00, 0x01, 0xFD, 0x24⟩ 0xC002 [] 5 = true ∧
    runs 0xC000 [0xB1, 0xFF] ⟨0x00, 0x00, 0x00, 0xFD, 0x24⟩ [(0x0000, 0x12), (0x00FF, 0x34), (0x0100, 0x99), (0x1234, 0x77)] ⟨0x77, 0x00, 0x00, 0xFD, 0x24⟩ 0xC002 [] 5 = true ∧
    runs 0xC000 [0xA1, 0xFE] ⟨0x00, 0x01, 0x00, 0xFD, 0x24⟩ [(0x0000, 0x12), (0x00FF, 0x34), (0x0100, 0x99), (0x1234, 0x66)] ⟨0x66, 0x01, 0x00, 0xFD, 0x24⟩ 0xC002 [] 6 = true ∧
    runs 0xC000 [0xB5, 0xF0] ⟨0x00, 0x20, 0x00, 0xFD, 0x24⟩ [(0x0010, 0x0A), (0x0110, 0xBB)] ⟨0x0A, 0x20, 0x00, 0xFD, 0x24⟩ 0xC002 [] 4 = true := by decide

/-- Vectors of `LDX $FF,Y`, `LDX $10FF,Y` (rule R152). -/
theorem test_ldx :
    runs 0xC000 [0xB6, 0xFF] ⟨0x00, 0x00, 0x02, 0xFD, 0x24⟩ [(0x0001, 0x5A), (0x0101, 0xEE)] ⟨0x00, 0x5A, 0x02, 0xFD, 0x24⟩ 0xC002 [] 4 = true ∧
    runs 0xC000 [0xBE, 0xFF, 0x10] ⟨0x00, 0x00, 0x01, 0xFD, 0x24⟩ [(0x1100, 0x00)] ⟨0x00, 0x00, 0x01, 0xFD, 0x26⟩ 0xC003 [] 5 = true := by decide

/-- Vectors of `LDY #$FF` (rule R153). -/
theorem test_ldy :
    runs 0xC000 [0xA0, 0xFF] ⟨0x00, 0x00, 0x00, 0xFD, 0x24⟩ [] ⟨0x00, 0x00, 0xFF, 0xFD, 0xA4⟩ 0xC002 [] 2 = true := by decide

/-- Vectors of `STA $10FF,X`, `STA ($10),Y`, `STA $0800` (rule R154). -/
theorem test_sta :
    runs 0xC000 [0x9D, 0xFF, 0x10] ⟨0xAB, 0x01, 0x00, 0xFD, 0x24⟩ [] ⟨0xAB, 0x01, 0x00, 0xFD, 0x24⟩ 0xC003 [(0x1100, 0xAB)] 5 = true ∧
    runs 0xC000 [0x91, 0x10] ⟨0xCD, 0x00, 0x01, 0xFD, 0x24⟩ [(0x0010, 0xFF), (0x0011, 0x10)] ⟨0xCD, 0x00, 0x01, 0xFD, 0x24⟩ 0xC002 [(0x1100, 0xCD)] 6 = true ∧
    runs 0xC000 [0x8D, 0x00, 0x08] ⟨0x11, 0x00, 0x00, 0xFD, 0x24⟩ [] ⟨0x11, 0x00, 0x00, 0xFD, 0x24⟩ 0xC003 [(0x0800, 0x11)] 4 = true := by decide

/-- Vectors of `STX $FF,Y` (rule R155). -/
theorem test_stx :
    runs 0xC000 [0x96, 0xFF] ⟨0x00, 0x77, 0x01, 0xFD, 0x24⟩ [] ⟨0x00, 0x77, 0x01, 0xFD, 0x24⟩ 0xC002 [(0x0000, 0x77)] 4 = true := by decide

/-- Vectors of `STY $10` (rule R156). -/
theorem test_sty :
    runs 0xC000 [0x84, 0x10] ⟨0x00, 0x00, 0x00, 0xFD, 0xA5⟩ [] ⟨0x00, 0x00, 0x00, 0xFD, 0xA5⟩ 0xC002 [] 3 = true := by decide

/-- Vectors of `TAX` (rule R157). -/
theorem test_tax :
    runs 0xC000 [0xAA] ⟨0x00, 0x55, 0x00, 0xFD, 0x24⟩ [] ⟨0x00, 0x00, 0x00, 0xFD, 0x26⟩ 0xC001 [] 2 = true := by decide

/-- Vectors of `TAY` (rule R158). -/
theorem test_tay :
    runs 0xC000 [0xA8] ⟨0x80, 0x00, 0x00, 0xFD, 0x24⟩ [] ⟨0x80, 0x00, 0x80, 0xFD, 0xA4⟩ 0xC001 [] 2 = true := by decide

/-- Vectors of `TXA` (rule R159). -/
theorem test_txa :
    runs 0xC000 [0x8A] ⟨0x00, 0x7F, 0x00, 0xFD, 0xA6⟩ [] ⟨0x7F, 0x7F, 0x00, 0xFD, 0x24⟩ 0xC001 [] 2 = true := by decide

/-- Vectors of `TYA` (rule R160). -/
theorem test_tya :
    runs 0xC000 [0x98] ⟨0x00, 0x00, 0xFF, 0xFD, 0x24⟩ [] ⟨0xFF, 0x00, 0xFF, 0xFD, 0xA4⟩ 0xC001 [] 2 = true := by decide

/-- Vectors of `TSX` (rule R161). -/
theorem test_tsx :
    runs 0xC000 [0xBA] ⟨0x00, 0x00, 0x00, 0xFD, 0x24⟩ [] ⟨0x00, 0xFD, 0x00, 0xFD, 0xA4⟩ 0xC001 [] 2 = true := by decide

/-- Vectors of `TXS` (rule R162). -/
theorem test_txs :
    runs 0xC000 [0x9A] ⟨0x00, 0x00, 0x00, 0xFD, 0x24⟩ [] ⟨0x00, 0x00, 0x00, 0x00, 0x24⟩ 0xC001 [] 2 = true := by decide

/-- Vectors of `PHA` (rule R165). -/
theorem test_pha :
    runs 0xC000 [0x48] ⟨0x3C, 0x00, 0x00, 0x00, 0x24⟩ [] ⟨0x3C, 0x00, 0x00, 0xFF, 0x24⟩ 0xC001 [(0x0100, 0x3C)] 3 = true := by decide

/-- Vectors of `PHP` (rule R166). -/
theorem test_php :
    runs 0xC000 [0x08] ⟨0x00, 0x00, 0x00, 0xFD, 0xE3⟩ [] ⟨0x00, 0x00, 0x00, 0xFC, 0xE3⟩ 0xC001 [(0x01FD, 0xF3)] 3 = true := by decide

/-- Vectors of `PLA` (rule R167). -/
theorem test_pla :
    runs 0xC000 [0x68] ⟨0x11, 0x00, 0x00, 0xFF, 0x24⟩ [(0x0100, 0x00)] ⟨0x00, 0x00, 0x00, 0x00, 0x26⟩ 0xC001 [] 4 = true := by decide

/-- Vectors of `PLP`, `PLP` (rule R168). -/
theorem test_plp :
    runs 0xC000 [0x28] ⟨0x00, 0x00, 0x00, 0xFC, 0x24⟩ [(0x01FD, 0xFF)] ⟨0x00, 0x00, 0x00, 0xFD, 0xEF⟩ 0xC001 [] 4 = true ∧
    runs 0xC000 [0x28] ⟨0x00, 0x00, 0x00, 0xFC, 0xEF⟩ [(0x01FD, 0x00)] ⟨0x00, 0x00, 0x00, 0xFD, 0x20⟩ 0xC001 [] 4 = true := by decide

/-- Vectors of `ADC #$50`, `ADC #$01`, `ADC #$00`, `ADC #$80`, `ADC #$01 (D=1)`, `ADC #$FF` (rule R183). -/
theorem test_adc :
    runs 0xC000 [0x69, 0x50] ⟨0x50, 0x00, 0x00, 0xFD, 0x24⟩ [] ⟨0xA0, 0x00, 0x00, 0xFD, 0xE4⟩ 0xC002 [] 2 = true ∧
    runs 0xC000 [0x69, 0x01] ⟨0xFF, 0x00, 0x00, 0xFD, 0x24⟩ [] ⟨0x00, 0x00, 0x00, 0xFD, 0x27⟩ 0xC002 [] 2 = true ∧
    runs 0xC000 [0x69, 0x00] ⟨0x7F, 0x00, 0x00, 0xFD, 0x25⟩ [] ⟨0x80, 0x00, 0x00, 0xFD, 0xE4⟩ 0xC002 [] 2 = true ∧
    runs 0xC000 [0x69, 0x80] ⟨0x80, 0x00, 0x00, 0xFD, 0x24⟩ [] ⟨0x00, 0x00, 0x00, 0xFD, 0x67⟩ 0xC002 [] 2 = true ∧
    runs 0xC000 [0x69, 0x01] ⟨0x09, 0x00, 0x00, 0xFD, 0x2C⟩ [] ⟨0x0A, 0x00, 0x00, 0xFD, 0x2C⟩ 0xC002 [] 2 = true ∧
    runs 0xC000 [0x69, 0xFF] ⟨0xFF, 0x00, 0x00, 0xFD, 0x25⟩ [] ⟨0xFF, 0x00, 0x00, 0xFD, 0xA5⟩ 0xC002 [] 2 = true := by decide

/-- Vectors of `SBC #$F0`, `SBC #$B0`, `SBC #$01`, `SBC #$03`, `SBC #$01`, `SBC #$40` (rule R184). -/
theorem test_sbc :
    runs 0xC000 [0xE9, 0xF0] ⟨0x50, 0x00, 0x00, 0xFD, 0x25⟩ [] ⟨0x60, 0x00, 0x00, 0xFD, 0x24⟩ 0xC002 [] 2 = true ∧
    runs 0xC000 [0xE9, 0xB0] ⟨0x50, 0x00, 0x00, 0xFD, 0x25⟩ [] ⟨0xA0, 0x00, 0x00, 0xFD, 0xE4⟩ 0xC002 [] 2 = true ∧
    runs 0xC000 [0xE9, 0x01] ⟨0x00, 0x00, 0x00, 0xFD, 0x25⟩ [] ⟨0xFF, 0x00, 0x00, 0xFD, 0xA4⟩ 0xC002 [] 2 = true ∧
    runs 0xC000 [0xE9, 0x03] ⟨0x05, 0x00, 0x00, 0xFD, 0x24⟩ [] ⟨0x01, 0x00, 0x00, 0xFD, 0x25⟩ 0xC002 [] 2 = true ∧
    runs 0xC000 [0xE9, 0x01] ⟨0x80, 0x00, 0x00, 0xFD, 0x25⟩ [] ⟨0x7F, 0x00, 0x00, 0xFD, 0x65⟩ 0xC002 [] 2 = true ∧
    runs 0xC000 [0xE9, 0x40] ⟨0x40, 0x00, 0x00, 0xFD, 0x25⟩ [] ⟨0x00, 0x00, 0x00, 0xFD, 0x27⟩ 0xC002 [] 2 = true := by decide

/-- Vectors of `AND #$0F`, `AND $10` (rule R185). -/
theorem test_and :
    runs 0xC000 [0x29, 0x0F] ⟨0xF0, 0x00, 0x00, 0xFD, 0x24⟩ [] ⟨0x00, 0x00, 0x00, 0xFD, 0x26⟩ 0xC002 [] 2 = true ∧
    runs 0xC000 [0x25, 0x10] ⟨0xFF, 0x00, 0x00, 0xFD, 0x24⟩ [(0x0010, 0x80)] ⟨0x80, 0x00, 0x00, 0xFD, 0xA4⟩ 0xC002 [] 3 = true := by decide

/-- Vectors of `ORA #$80`, `ORA #$00` (rule R186). -/
theorem test_ora :
    runs 0xC000 [0x09, 0x80] ⟨0x01, 0x00, 0x00, 0xFD, 0x24⟩ [] ⟨0x81, 0x00, 0x00, 0xFD, 0xA4⟩ 0xC002 [] 2 = true ∧
    runs 0xC000 [0x09, 0x00] ⟨0x00, 0x00, 0x00, 0xFD, 0xA4⟩ [] ⟨0x00, 0x00, 0x00, 0xFD, 0x26⟩ 0xC002 [] 2 = true := by decide

/-- Vectors of `EOR #$FF`, `EOR #$FF` (rule R187). -/
theorem test_eor :
    runs 0xC000 [0x49, 0xFF] ⟨0xFF, 0x00, 0x00, 0xFD, 0x24⟩ [] ⟨0x00, 0x00, 0x00, 0xFD, 0x26⟩ 0xC002 [] 2 = true ∧
    runs 0xC000 [0x49, 0xFF] ⟨0x0F, 0x00, 0x00, 0xFD, 0x24⟩ [] ⟨0xF0, 0x00, 0x00, 0xFD, 0xA4⟩ 0xC002 [] 2 = true := by decide

/-- Vectors of `CMP #$40`, `CMP #$41`, `CMP #$FF`, `CMP #$00` (rule R189). -/
theorem test_cmp :
    runs 0xC000 [0xC9, 0x40] ⟨0x40, 0x00, 0x00, 0xFD, 0x24⟩ [] ⟨0x40, 0x00, 0x00, 0xFD, 0x27⟩ 0xC002 [] 2 = true ∧
    runs 0xC000 [0xC9, 0x41] ⟨0x40, 0x00, 0x00, 0xFD, 0x24⟩ [] ⟨0x40, 0x00, 0x00, 0xFD, 0xA4⟩ 0xC002 [] 2 = true ∧
    runs 0xC000 [0xC9, 0xFF] ⟨0x00, 0x00, 0x00, 0xFD, 0x24⟩ [] ⟨0x00, 0x00, 0x00, 0xFD, 0x24⟩ 0xC002 [] 2 = true ∧
    runs 0xC000 [0xC9, 0x00] ⟨0x80, 0x00, 0x00, 0xFD, 0x64⟩ [] ⟨0x80, 0x00, 0x00, 0xFD, 0xE5⟩ 0xC002 [] 2 = true := by decide

/-- Vectors of `CPX $10` (rule R190). -/
theorem test_cpx :
    runs 0xC000 [0xE4, 0x10] ⟨0x00, 0x10, 0x00, 0xFD, 0x24⟩ [(0x0010, 0x0F)] ⟨0x00, 0x10, 0x00, 0xFD, 0x25⟩ 0xC002 [] 3 = true := by decide

/-- Vectors of `CPY #$80` (rule R191). -/
theorem test_cpy :
    runs 0xC000 [0xC0, 0x80] ⟨0x00, 0x00, 0x7F, 0xFD, 0x24⟩ [] ⟨0x00, 0x00, 0x7F, 0xFD, 0xA4⟩ 0xC002 [] 2 = true := by decide

/-- Vectors of `BIT $10`, `BIT $1234` (rule R192). -/
theorem test_bit :
    runs 0xC000 [0x24, 0x10] ⟨0x01, 0x00, 0x00, 0xFD, 0x24⟩ [(0x0010, 0xC0)] ⟨0x01, 0x00, 0x00, 0xFD, 0xE6⟩ 0xC002 [] 3 = true ∧
    runs 0xC000 [0x2C, 0x34, 0x12] ⟨0xFF, 0x00, 0x00, 0xFD, 0xE4⟩ [(0x1234, 0x3F)] ⟨0xFF, 0x00, 0x00, 0xFD, 0x24⟩ 0xC003 [] 4 = true := by decide

/-- Vectors of `ASL A`, `ASL $10` (rule R201). -/
theorem test_asl :
    runs 0xC000 [0x0A] ⟨0x80, 0x00, 0x00, 0xFD, 0x24⟩ [] ⟨0x00, 0x00, 0x00, 0xFD, 0x27⟩ 0xC001 [] 2 = true ∧
    runs 0xC000 [0x06, 0x10] ⟨0x00, 0x00, 0x00, 0xFD, 0x24⟩ [(0x0010, 0x41)] ⟨0x00, 0x00, 0x00, 0xFD, 0xA4⟩ 0xC002 [(0x0010, 0x82)] 5 = true := by decide

/-- Vectors of `LSR $10`, `LSR A` (rule R202). -/
theorem test_lsr :
    runs 0xC000 [0x46, 0x10] ⟨0x00, 0x00, 0x00, 0xFD, 0xA4⟩ [(0x0010, 0x01)] ⟨0x00, 0x00, 0x00, 0xFD, 0x27⟩ 0xC002 [(0x0010, 0x00)] 5 = true ∧
    runs 0xC000 [0x4A] ⟨0xFE, 0x00, 0x00, 0xFD, 0xA5⟩ [] ⟨0x7F, 0x00, 0x00, 0xFD, 0x24⟩ 0xC001 [] 2 = true := by decide

/-- Vectors of `ROL A`, `ROL $1000,X` (rule R203). -/
theorem test_rol :
    runs 0xC000 [0x2A] ⟨0x80, 0x00, 0x00, 0xFD, 0x25⟩ [] ⟨0x01, 0x00, 0x00, 0xFD, 0x25⟩ 0xC001 [] 2 = true ∧
    runs 0xC000 [0x3E, 0x00, 0x10] ⟨0x00, 0xFF, 0x00, 0xFD, 0x24⟩ [(0x10FF, 0x40)] ⟨0x00, 0xFF, 0x00, 0xFD, 0xA4⟩ 0xC003 [(0x10FF, 0x80)] 7 = true := by decide

/-- Vectors of `ROR $10`, `ROR A` (rule R204). -/
theorem test_ror :
    runs 0xC000 [0x66, 0x10] ⟨0x00, 0x00, 0x00, 0xFD, 0x24⟩ [(0x0010, 0x01)] ⟨0x00, 0x00, 0x00, 0xFD, 0x27⟩ 0xC002 [(0x0010, 0x00)] 5 = true ∧
    runs 0xC000 [0x6A] ⟨0x00, 0x00, 0x00, 0xFD, 0x25⟩ [] ⟨0x80, 0x00, 0x00, 0xFD, 0xA4⟩ 0xC001 [] 2 = true := by decide

/-- Vectors of `INC $10`, `INC $10FF,X` (rule R205). -/
theorem test_inc :
    runs 0xC000 [0xE6, 0x10] ⟨0x00, 0x00, 0x00, 0xFD, 0x24⟩ [(0x0010, 0xFF)] ⟨0x00, 0x00, 0x00, 0xFD, 0x26⟩ 0xC002 [(0x0010, 0x00)] 5 = true ∧
    runs 0xC000 [0xFE, 0xFF, 0x10] ⟨0x00, 0x01, 0x00, 0xFD, 0x24⟩ [(0x1100, 0x7F)] ⟨0x00, 0x01, 0x00, 0xFD, 0xA4⟩ 0xC003 [(0x1100, 0x80)] 7 = true := by decide

/-- Vectors of `DEC $10`, `DEC $1234` (rule R206). -/
theorem test_dec :
    runs 0xC000 [0xC6, 0x10] ⟨0x00, 0x00, 0x00, 0xFD, 0x24⟩ [(0x0010, 0x00)] ⟨0x00, 0x00, 0x00, 0xFD, 0xA4⟩ 0xC002 [(0x0010, 0xFF)] 5 = true ∧
    runs 0xC000 [0xCE, 0x34, 0x12] ⟨0x99, 0x00, 0x00, 0xFD, 0x25⟩ [(0x1234, 0x01)] ⟨0x99, 0x00, 0x00, 0xFD, 0x27⟩ 0xC003 [(0x1234, 0x00)] 6 = true := by decide

/-- Vectors of `INX` (rule R207). -/
theorem test_inx :
    runs 0xC000 [0xE8] ⟨0x00, 0xFF, 0x00, 0xFD, 0x24⟩ [] ⟨0x00, 0x00, 0x00, 0xFD, 0x26⟩ 0xC001 [] 2 = true := by decide

/-- Vectors of `INY` (rule R208). -/
theorem test_iny :
    runs 0xC000 [0xC8] ⟨0x00, 0x00, 0x7F, 0xFD, 0x24⟩ [] ⟨0x00, 0x00, 0x80, 0xFD, 0xA4⟩ 0xC001 [] 2 = true := by decide

/-- Vectors of `DEX` (rule R209). -/
theorem test_dex :
    runs 0xC000 [0xCA] ⟨0x00, 0x00, 0x00, 0xFD, 0x24⟩ [] ⟨0x00, 0xFF, 0x00, 0xFD, 0xA4⟩ 0xC001 [] 2 = true := by decide

/-- Vectors of `DEY` (rule R210). -/
theorem test_dey :
    runs 0xC000 [0x88] ⟨0x00, 0x00, 0x01, 0xFD, 0x24⟩ [] ⟨0x00, 0x00, 0x00, 0xFD, 0x26⟩ 0xC001 [] 2 = true := by decide

/-- Vectors of `JMP $1234`, `JMP ($10FF)`, `JMP ($1000)` (rule R221). -/
theorem test_jmp :
    runs 0xC000 [0x4C, 0x34, 0x12] ⟨0x00, 0x00, 0x00, 0xFD, 0x24⟩ [] ⟨0x00, 0x00, 0x00, 0xFD, 0x24⟩ 0x1234 [] 3 = true ∧
    runs 0xC000 [0x6C, 0xFF, 0x10] ⟨0x00, 0x00, 0x00, 0xFD, 0x24⟩ [(0x1000, 0x12), (0x10FF, 0x34), (0x1100, 0x99)] ⟨0x00, 0x00, 0x00, 0xFD, 0x24⟩ 0x1234 [] 5 = true ∧
    runs 0xC000 [0x6C, 0x00, 0x10] ⟨0x00, 0x00, 0x00, 0xFD, 0x24⟩ [(0x1000, 0x78), (0x1001, 0x56)] ⟨0x00, 0x00, 0x00, 0xFD, 0x24⟩ 0x5678 [] 5 = true := by decide

/-- Vectors of `JSR $D000`, `JSR $1234` (rule R222). -/
theorem test_jsr :
    runs 0xC000 [0x20, 0x00, 0xD0] ⟨0x00, 0x00, 0x00, 0xFD, 0x24⟩ [] ⟨0x00, 0x00, 0x00, 0xFB, 0x24⟩ 0xD000 [(0x01FC, 0x02), (0x01FD, 0xC0)] 6 = true ∧
    runs 0xC0FE [0x20, 0x34, 0x12] ⟨0x00, 0x00, 0x00, 0x00, 0x24⟩ [] ⟨0x00, 0x00, 0x00, 0xFE, 0x24⟩ 0x1234 [(0x0100, 0xC1)] 6 = true := by decide

/-- Vectors of `RTS`, `RTS` (rule R223). -/
theorem test_rts :
    runs 0xD000 [0x60] ⟨0x00, 0x00, 0x00, 0xFB, 0x24⟩ [(0x01FC, 0x02), (0x01FD, 0xC0)] ⟨0x00, 0x00, 0x00, 0xFD, 0x24⟩ 0xC003 [] 6 = true ∧
    runs 0xD000 [0x60] ⟨0x00, 0x00, 0x00, 0xFB, 0x24⟩ [(0x01FC, 0xFF), (0x01FD, 0xFF)] ⟨0x00, 0x00, 0x00, 0xFD, 0x24⟩ 0x0000 [] 6 = true := by decide

/-- Vectors of `BRK`, `BRK` (rule R226). -/
theorem test_brk :
    runs 0xC000 [0x00] ⟨0x00, 0x00, 0x00, 0xFD, 0x24⟩ [(0xFFFE, 0x00), (0xFFFF, 0xD0)] ⟨0x00, 0x00, 0x00, 0xFA, 0x24⟩ 0xD000 [(0x01FB, 0x34), (0x01FC, 0x02), (0x01FD, 0xC0)] 7 = true ∧
    runs 0xFFFF [0x00] ⟨0x00, 0x00, 0x00, 0xFD, 0xE3⟩ [(0xFFFE, 0x34)] ⟨0x00, 0x00, 0x00, 0xFA, 0xE7⟩ 0x0034 [(0x01FB, 0xF3), (0x01FC, 0x01)] 7 = true := by decide

/-- Vectors of `RTI` (rule R228). -/
theorem test_rti :
    runs 0xD000 [0x40] ⟨0x00, 0x00, 0x00, 0xFA, 0x24⟩ [(0x01FB, 0xF3), (0x01FC, 0x02), (0x01FD, 0xC0)] ⟨0x00, 0x00, 0x00, 0xFD, 0xE3⟩ 0xC002 [] 6 = true := by decide

/-- Vectors of `BCC +5`, `BCC +5`, `BCC -1` (rule R233). -/
theorem test_bcc :
    runs 0xC000 [0x90, 0x05] ⟨0x00, 0x00, 0x00, 0xFD, 0x24⟩ [] ⟨0x00, 0x00, 0x00, 0xFD, 0x24⟩ 0xC007 [] 3 = true ∧
    runs 0xC0FE [0x90, 0x05] ⟨0x00, 0x00, 0x00, 0xFD, 0x24⟩ [] ⟨0x00, 0x00, 0x00, 0xFD, 0x24⟩ 0xC105 [] 3 = true ∧
    runs 0xC0FE [0x90, 0xFF] ⟨0x00, 0x00, 0x00, 0xFD, 0x24⟩ [] ⟨0x00, 0x00, 0x00, 0xFD, 0x24⟩ 0xC0FF [] 4 = true := by decide

/-- Vectors of `BCS +5` (rule R234). -/
theorem test_bcs :
    runs 0xC000 [0xB0, 0x05] ⟨0x00, 0x00, 0x00, 0xFD, 0x24⟩ [] ⟨0x00, 0x00, 0x00, 0xFD, 0x24⟩ 0xC002 [] 2 = true := by decide

/-- Vectors of `BEQ -4`, `BEQ +2` (rule R235). -/
theorem test_beq :
    runs 0xC010 [0xF0, 0xFC] ⟨0x00, 0x00, 0x00, 0xFD, 0x26⟩ [] ⟨0x00, 0x00, 0x00, 0xFD, 0x26⟩ 0xC00E [] 3 = true ∧
    runs 0xFFFD [0xF0, 0x02] ⟨0x00, 0x00, 0x00, 0xFD, 0x26⟩ [] ⟨0x00, 0x00, 0x00, 0xFD, 0x26⟩ 0x0001 [] 4 = true := by decide

/-- Vectors of `BNE -3`, `BNE -3` (rule R236). -/
theorem test_bne :
    runs 0xC000 [0xD0, 0xFD] ⟨0x00, 0x00, 0x00, 0xFD, 0x24⟩ [] ⟨0x00, 0x00, 0x00, 0xFD, 0x24⟩ 0xBFFF [] 4 = true ∧
    runs 0xC003 [0xD0, 0xFD] ⟨0x00, 0x00, 0x00, 0xFD, 0x24⟩ [] ⟨0x00, 0x00, 0x00, 0xFD, 0x24⟩ 0xC002 [] 3 = true := by decide

/-- Vectors of `BMI +127` (rule R237). -/
theorem test_bmi :
    runs 0xC000 [0x30, 0x7F] ⟨0x00, 0x00, 0x00, 0xFD, 0xA4⟩ [] ⟨0x00, 0x00, 0x00, 0xFD, 0xA4⟩ 0xC081 [] 3 = true := by decide

/-- Vectors of `BPL -128` (rule R238). -/
theorem test_bpl :
    runs 0xC000 [0x10, 0x80] ⟨0x00, 0x00, 0x00, 0xFD, 0x24⟩ [] ⟨0x00, 0x00, 0x00, 0xFD, 0x24⟩ 0xBF82 [] 4 = true := by decide

/-- Vectors of `BVC +16` (rule R239). -/
theorem test_bvc :
    runs 0xC000 [0x50, 0x10] ⟨0x00, 0x00, 0x00, 0xFD, 0x64⟩ [] ⟨0x00, 0x00, 0x00, 0xFD, 0x64⟩ 0xC002 [] 2 = true := by decide

/-- Vectors of `BVS +16` (rule R240). -/
theorem test_bvs :
    runs 0xC000 [0x70, 0x10] ⟨0x00, 0x00, 0x00, 0xFD, 0x64⟩ [] ⟨0x00, 0x00, 0x00, 0xFD, 0x64⟩ 0xC012 [] 3 = true := by decide

/-- Vectors of `CLC` (rule R241). -/
theorem test_clc :
    runs 0xC000 [0x18] ⟨0x00, 0x00, 0x00, 0xFD, 0xE7⟩ [] ⟨0x00, 0x00, 0x00, 0xFD, 0xE6⟩ 0xC001 [] 2 = true := by decide

/-- Vectors of `SEC` (rule R242). -/
theorem test_sec :
    runs 0xC000 [0x38] ⟨0x00, 0x00, 0x00, 0xFD, 0x24⟩ [] ⟨0x00, 0x00, 0x00, 0xFD, 0x25⟩ 0xC001 [] 2 = true := by decide

/-- Vectors of `CLI` (rule R243). -/
theorem test_cli :
    runs 0xC000 [0x58] ⟨0x00, 0x00, 0x00, 0xFD, 0x24⟩ [] ⟨0x00, 0x00, 0x00, 0xFD, 0x20⟩ 0xC001 [] 2 = true := by decide

/-- Vectors of `SEI` (rule R244). -/
theorem test_sei :
    runs 0xC000 [0x78] ⟨0x00, 0x00, 0x00, 0xFD, 0x20⟩ [] ⟨0x00, 0x00, 0x00, 0xFD, 0x24⟩ 0xC001 [] 2 = true := by decide

/-- Vectors of `CLV` (rule R245). -/
theorem test_clv :
    runs 0xC000 [0xB8] ⟨0x00, 0x00, 0x00, 0xFD, 0x64⟩ [] ⟨0x00, 0x00, 0x00, 0xFD, 0x24⟩ 0xC001 [] 2 = true := by decide

/-- Vectors of `CLD` (rule R246). -/
theorem test_cld :
    runs 0xC000 [0xD8] ⟨0x00, 0x00, 0x00, 0xFD, 0x2C⟩ [] ⟨0x00, 0x00, 0x00, 0xFD, 0x24⟩ 0xC001 [] 2 = true := by decide

/-- Vectors of `SED` (rule R247). -/
theorem test_sed :
    runs 0xC000 [0xF8] ⟨0x00, 0x00, 0x00, 0xFD, 0x24⟩ [] ⟨0x00, 0x00, 0x00, 0xFD, 0x2C⟩ 0xC001 [] 2 = true := by decide

/-- Vectors of `NOP` (rule R248). -/
theorem test_nop :
    runs 0xC000 [0xEA] ⟨0x01, 0x02, 0x03, 0xFD, 0xE7⟩ [] ⟨0x01, 0x02, 0x03, 0xFD, 0xE7⟩ 0xC001 [] 2 = true := by decide

/-- Vectors of `NOP (0x1A)`, `NOP #$FF (0x80)`, `NOP $10 (0x04)`, `NOP $10,X (0x14)`, `NOP $1234 (0x0C)`, `NOP $10FF,X (0x1C)`, `NOP $1000,X (0xFC)` (rule R261). -/
theorem test_nop_unofficial :
    runs 0xC000 [0x1A] ⟨0x00, 0x00, 0x00, 0xFD, 0x24⟩ [] ⟨0x00, 0x00, 0x00, 0xFD, 0x24⟩ 0xC001 [] 2 = true ∧
    runs 0xC000 [0x80, 0xFF] ⟨0x00, 0x00, 0x00, 0xFD, 0x24⟩ [] ⟨0x00, 0x00, 0x00, 0xFD, 0x24⟩ 0xC002 [] 2 = true ∧
    runs 0xC000 [0x04, 0x10] ⟨0x00, 0x00, 0x00, 0xFD, 0x24⟩ [(0x0010, 0x80)] ⟨0x00, 0x00, 0x00, 0xFD, 0x24⟩ 0xC002 [] 3 = true ∧
    runs 0xC000 [0x14, 0x10] ⟨0x00, 0xF8, 0x00, 0xFD, 0x24⟩ [(0x0008, 0x01)] ⟨0x00, 0xF8, 0x00, 0xFD, 0x24⟩ 0xC002 [] 4 = true ∧
    runs 0xC000 [0x0C, 0x34, 0x12] ⟨0x00, 0x00, 0x00, 0xFD, 0x24⟩ [] ⟨0x00, 0x00, 0x00, 0xFD, 0x24⟩ 0xC003 [] 4 = true ∧
    runs 0xC000 [0x1C, 0xFF, 0x10] ⟨0x00, 0x01, 0x00, 0xFD, 0x24⟩ [] ⟨0x00, 0x01, 0x00, 0xFD, 0x24⟩ 0xC003 [] 5 = true ∧
    runs 0xC000 [0xFC, 0x00, 0x10] ⟨0x00, 0x01, 0x00, 0xFD, 0x24⟩ [] ⟨0x00, 0x01, 0x00, 0xFD, 0x24⟩ 0xC003 [] 4 = true := by decide

/-- Vectors of `LAX $10`, `LAX ($10),Y`, `LAX $10,Y` (rule R262). -/
theorem test_lax :
    runs 0xC000 [0xA7, 0x10] ⟨0x00, 0x00, 0x00, 0xFD, 0x24⟩ [(0x0010, 0x80)] ⟨0x80, 0x80, 0x00, 0xFD, 0xA4⟩ 0xC002 [] 3 = true ∧
    runs 0xC000 [0xB3, 0x10] ⟨0x00, 0x00, 0x01, 0xFD, 0x24⟩ [(0x0010, 0xFF), (0x0011, 0x10), (0x1100, 0x00)] ⟨0x00, 0x00, 0x01, 0xFD, 0x26⟩ 0xC002 [] 6 = true ∧
    runs 0xC000 [0xB7, 0x10] ⟨0x00, 0x00, 0xF1, 0xFD, 0x24⟩ [(0x0001, 0x3C)] ⟨0x3C, 0x3C, 0xF1, 0xFD, 0x24⟩ 0xC002 [] 4 = true := by decide

/-- Vectors of `SAX $10`, `SAX ($10,X)` (rule R263). -/
theorem test_sax :
    runs 0xC000 [0x87, 0x10] ⟨0xF0, 0x3C, 0x00, 0xFD, 0x24⟩ [] ⟨0xF0, 0x3C, 0x00, 0xFD, 0x24⟩ 0xC002 [(0x0010, 0x30)] 3 = true ∧
    runs 0xC000 [0x83, 0x10] ⟨0xFF, 0x01, 0x00, 0xFD, 0x24⟩ [(0x0011, 0x00), (0x0012, 0x03)] ⟨0xFF, 0x01, 0x00, 0xFD, 0x24⟩ 0xC002 [(0x0300, 0x01)] 6 = true := by decide

/-- Vectors of `SBC #$01 (0xEB)` (rule R264). -/
theorem test_sbc_eb :
    runs 0xC000 [0xEB, 0x01] ⟨0x00, 0x00, 0x00, 0xFD, 0x25⟩ [] ⟨0xFF, 0x00, 0x00, 0xFD, 0xA4⟩ 0xC002 [] 2 = true := by decide

/-- Vectors of `SLO $10` (rule R266). -/
theorem test_slo :
    runs 0xC000 [0x07, 0x10] ⟨0x01, 0x00, 0x00, 0xFD, 0x24⟩ [(0x0010, 0xC0)] ⟨0x81, 0x00, 0x00, 0xFD, 0xA5⟩ 0xC002 [(0x0010, 0x80)] 5 = true := by decide

/-- Vectors of `RLA $10` (rule R267). -/
theorem test_rla :
    runs 0xC000 [0x27, 0x10] ⟨0xFF, 0x00, 0x00, 0xFD, 0x25⟩ [(0x0010, 0x80)] ⟨0x01, 0x00, 0x00, 0xFD, 0x25⟩ 0xC002 [(0x0010, 0x01)] 5 = true := by decide

/-- Vectors of `SRE $10` (rule R268). -/
theorem test_sre :
    runs 0xC000 [0x47, 0x10] ⟨0xFF, 0x00, 0x00, 0xFD, 0x24⟩ [(0x0010, 0x03)] ⟨0xFE, 0x00, 0x00, 0xFD, 0xA5⟩ 0xC002 [(0x0010, 0x01)] 5 = true := by decide

/-- Vectors of `RRA $10`, `RRA $10` (rule R269). -/
theorem test_rra :
    runs 0xC000 [0x67, 0x10] ⟨0x10, 0x00, 0x00, 0xFD, 0x24⟩ [(0x0010, 0x03)] ⟨0x12, 0x00, 0x00, 0xFD, 0x24⟩ 0xC002 [(0x0010, 0x01)] 5 = true ∧
    runs 0xC000 [0x67, 0x10] ⟨0x7F, 0x00, 0x00, 0xFD, 0x25⟩ [(0x0010, 0x00)] ⟨0xFF, 0x00, 0x00, 0xFD, 0xA4⟩ 0xC002 [(0x0010, 0x80)] 5 = true := by decide

/-- Vectors of `DCP $10`, `DCP $10FF,X` (rule R270). -/
theorem test_dcp :
    runs 0xC000 [0xC7, 0x10] ⟨0x40, 0x00, 0x00, 0xFD, 0x24⟩ [(0x0010, 0x41)] ⟨0x40, 0x00, 0x00, 0xFD, 0x27⟩ 0xC002 [(0x0010, 0x40)] 5 = true ∧
    runs 0xC000 [0xDF, 0xFF, 0x10] ⟨0x00, 0x01, 0x00, 0xFD, 0x24⟩ [(0x1100, 0x00)] ⟨0x00, 0x01, 0x00, 0xFD, 0x24⟩ 0xC003 [(0x1100, 0xFF)] 7 = true := by decide

/-- Vectors of `ISB $10`, `ISB ($10),Y` (rule R271). -/
theorem test_isb :
    runs 0xC000 [0xE7, 0x10] ⟨0x10, 0x00, 0x00, 0xFD, 0x25⟩ [(0x0010, 0x0F)] ⟨0x00, 0x00, 0x00, 0xFD, 0x27⟩ 0xC002 [(0x0010, 0x10)] 5 = true ∧
    runs 0xC000 [0xF3, 0x10] ⟨0x00, 0x00, 0x01, 0xFD, 0x25⟩ [(0x0010, 0xFF), (0x0011, 0x10), (0x1100, 0xFF)] ⟨0x00, 0x00, 0x01, 0xFD, 0x27⟩ 0xC002 [(0x1100, 0x00)] 8 = true := by decide

/-! ### Decoding: every constructor, its word written out from rule R119 with an operand byte 0x9C or an operand word
0x9234, low byte first (rule R113) -/

/-- The bytes decode to the instruction and nothing is left over. -/
def reads (bytes : List Byte) (i : Instr) : Bool :=
  match decode bytes with
  | .ok (j, rest) => j == i && rest.isEmpty
  | .error _ => false

/-- LDA, LDX, LDY, STA, STX, STY (rules R151 to R156). -/
theorem test_decode_loads_stores :
    (reads [0xA1, 0x9C] (.ldaIzx 0x9C) &&
    reads [0xA5, 0x9C] (.ldaZp 0x9C) &&
    reads [0xA9, 0x9C] (.ldaImm 0x9C) &&
    reads [0xAD, 0x34, 0x92] (.ldaAbs 0x9234) &&
    reads [0xB1, 0x9C] (.ldaIzy 0x9C) &&
    reads [0xB5, 0x9C] (.ldaZpx 0x9C) &&
    reads [0xB9, 0x34, 0x92] (.ldaAby 0x9234) &&
    reads [0xBD, 0x34, 0x92] (.ldaAbx 0x9234) &&
    reads [0xA2, 0x9C] (.ldxImm 0x9C) &&
    reads [0xA6, 0x9C] (.ldxZp 0x9C) &&
    reads [0xAE, 0x34, 0x92] (.ldxAbs 0x9234) &&
    reads [0xB6, 0x9C] (.ldxZpy 0x9C) &&
    reads [0xBE, 0x34, 0x92] (.ldxAby 0x9234) &&
    reads [0xA0, 0x9C] (.ldyImm 0x9C) &&
    reads [0xA4, 0x9C] (.ldyZp 0x9C) &&
    reads [0xAC, 0x34, 0x92] (.ldyAbs 0x9234) &&
    reads [0xB4, 0x9C] (.ldyZpx 0x9C) &&
    reads [0xBC, 0x34, 0x92] (.ldyAbx 0x9234) &&
    reads [0x81, 0x9C] (.staIzx 0x9C) &&
    reads [0x85, 0x9C] (.staZp 0x9C) &&
    reads [0x8D, 0x34, 0x92] (.staAbs 0x9234) &&
    reads [0x91, 0x9C] (.staIzy 0x9C) &&
    reads [0x95, 0x9C] (.staZpx 0x9C) &&
    reads [0x99, 0x34, 0x92] (.staAby 0x9234) &&
    reads [0x9D, 0x34, 0x92] (.staAbx 0x9234) &&
    reads [0x86, 0x9C] (.stxZp 0x9C) &&
    reads [0x8E, 0x34, 0x92] (.stxAbs 0x9234) &&
    reads [0x96, 0x9C] (.stxZpy 0x9C) &&
    reads [0x84, 0x9C] (.styZp 0x9C) &&
    reads [0x8C, 0x34, 0x92] (.styAbs 0x9234) &&
    reads [0x94, 0x9C] (.styZpx 0x9C)) = true := by decide

/-- TAX, TAY, TXA, TYA, TSX, TXS, PHA, PHP, PLA, PLP (rules R157 to R168). -/
theorem test_decode_transfers_stack :
    (reads [0xAA] .tax &&
    reads [0xA8] .tay &&
    reads [0x8A] .txa &&
    reads [0x98] .tya &&
    reads [0xBA] .tsx &&
    reads [0x9A] .txs &&
    reads [0x48] .pha &&
    reads [0x08] .php &&
    reads [0x68] .pla &&
    reads [0x28] .plp) = true := by decide

/-- ADC, SBC (rules R183, R184, R264). -/
theorem test_decode_adc_sbc :
    (reads [0x61, 0x9C] (.adcIzx 0x9C) &&
    reads [0x65, 0x9C] (.adcZp 0x9C) &&
    reads [0x69, 0x9C] (.adcImm 0x9C) &&
    reads [0x6D, 0x34, 0x92] (.adcAbs 0x9234) &&
    reads [0x71, 0x9C] (.adcIzy 0x9C) &&
    reads [0x75, 0x9C] (.adcZpx 0x9C) &&
    reads [0x79, 0x34, 0x92] (.adcAby 0x9234) &&
    reads [0x7D, 0x34, 0x92] (.adcAbx 0x9234) &&
    reads [0xE1, 0x9C] (.sbcIzx 0x9C) &&
    reads [0xE5, 0x9C] (.sbcZp 0x9C) &&
    reads [0xE9, 0x9C] (.sbcImm 0x9C) &&
    reads [0xEB, 0x9C] (.sbcImmEB 0x9C) &&
    reads [0xED, 0x34, 0x92] (.sbcAbs 0x9234) &&
    reads [0xF1, 0x9C] (.sbcIzy 0x9C) &&
    reads [0xF5, 0x9C] (.sbcZpx 0x9C) &&
    reads [0xF9, 0x34, 0x92] (.sbcAby 0x9234) &&
    reads [0xFD, 0x34, 0x92] (.sbcAbx 0x9234)) = true := by decide

/-- AND, ORA, EOR (rules R185 to R187). -/
theorem test_decode_logic :
    (reads [0x21, 0x9C] (.andIzx 0x9C) &&
    reads [0x25, 0x9C] (.andZp 0x9C) &&
    reads [0x29, 0x9C] (.andImm 0x9C) &&
    reads [0x2D, 0x34, 0x92] (.andAbs 0x9234) &&
    reads [0x31, 0x9C] (.andIzy 0x9C) &&
    reads [0x35, 0x9C] (.andZpx 0x9C) &&
    reads [0x39, 0x34, 0x92] (.andAby 0x9234) &&
    reads [0x3D, 0x34, 0x92] (.andAbx 0x9234) &&
    reads [0x01, 0x9C] (.oraIzx 0x9C) &&
    reads [0x05, 0x9C] (.oraZp 0x9C) &&
    reads [0x09, 0x9C] (.oraImm 0x9C) &&
    reads [0x0D, 0x34, 0x92] (.oraAbs 0x9234) &&
    reads [0x11, 0x9C] (.oraIzy 0x9C) &&
    reads [0x15, 0x9C] (.oraZpx 0x9C) &&
    reads [0x19, 0x34, 0x92] (.oraAby 0x9234) &&
    reads [0x1D, 0x34, 0x92] (.oraAbx 0x9234) &&
    reads [0x41, 0x9C] (.eorIzx 0x9C) &&
    reads [0x45, 0x9C] (.eorZp 0x9C) &&
    reads [0x49, 0x9C] (.eorImm 0x9C) &&
    reads [0x4D, 0x34, 0x92] (.eorAbs 0x9234) &&
    reads [0x51, 0x9C] (.eorIzy 0x9C) &&
    reads [0x55, 0x9C] (.eorZpx 0x9C) &&
    reads [0x59, 0x34, 0x92] (.eorAby 0x9234) &&
    reads [0x5D, 0x34, 0x92] (.eorAbx 0x9234)) = true := by decide

/-- CMP, CPX, CPY, BIT (rules R189 to R192). -/
theorem test_decode_compare_bit :
    (reads [0xC1, 0x9C] (.cmpIzx 0x9C) &&
    reads [0xC5, 0x9C] (.cmpZp 0x9C) &&
    reads [0xC9, 0x9C] (.cmpImm 0x9C) &&
    reads [0xCD, 0x34, 0x92] (.cmpAbs 0x9234) &&
    reads [0xD1, 0x9C] (.cmpIzy 0x9C) &&
    reads [0xD5, 0x9C] (.cmpZpx 0x9C) &&
    reads [0xD9, 0x34, 0x92] (.cmpAby 0x9234) &&
    reads [0xDD, 0x34, 0x92] (.cmpAbx 0x9234) &&
    reads [0xE0, 0x9C] (.cpxImm 0x9C) &&
    reads [0xE4, 0x9C] (.cpxZp 0x9C) &&
    reads [0xEC, 0x34, 0x92] (.cpxAbs 0x9234) &&
    reads [0xC0, 0x9C] (.cpyImm 0x9C) &&
    reads [0xC4, 0x9C] (.cpyZp 0x9C) &&
    reads [0xCC, 0x34, 0x92] (.cpyAbs 0x9234) &&
    reads [0x24, 0x9C] (.bitZp 0x9C) &&
    reads [0x2C, 0x34, 0x92] (.bitAbs 0x9234)) = true := by decide

/-- ASL, LSR, ROL, ROR (rules R201 to R204). -/
theorem test_decode_shifts :
    (reads [0x06, 0x9C] (.aslZp 0x9C) &&
    reads [0x0A] .aslAcc &&
    reads [0x0E, 0x34, 0x92] (.aslAbs 0x9234) &&
    reads [0x16, 0x9C] (.aslZpx 0x9C) &&
    reads [0x1E, 0x34, 0x92] (.aslAbx 0x9234) &&
    reads [0x46, 0x9C] (.lsrZp 0x9C) &&
    reads [0x4A] .lsrAcc &&
    reads [0x4E, 0x34, 0x92] (.lsrAbs 0x9234) &&
    reads [0x56, 0x9C] (.lsrZpx 0x9C) &&
    reads [0x5E, 0x34, 0x92] (.lsrAbx 0x9234) &&
    reads [0x26, 0x9C] (.rolZp 0x9C) &&
    reads [0x2A] .rolAcc &&
    reads [0x2E, 0x34, 0x92] (.rolAbs 0x9234) &&
    reads [0x36, 0x9C] (.rolZpx 0x9C) &&
    reads [0x3E, 0x34, 0x92] (.rolAbx 0x9234) &&
    reads [0x66, 0x9C] (.rorZp 0x9C) &&
    reads [0x6A] .rorAcc &&
    reads [0x6E, 0x34, 0x92] (.rorAbs 0x9234) &&
    reads [0x76, 0x9C] (.rorZpx 0x9C) &&
    reads [0x7E, 0x34, 0x92] (.rorAbx 0x9234)) = true := by decide

/-- INC, DEC, INX, INY, DEX, DEY (rules R205 to R210). -/
theorem test_decode_inc_dec :
    (reads [0xE6, 0x9C] (.incZp 0x9C) &&
    reads [0xEE, 0x34, 0x92] (.incAbs 0x9234) &&
    reads [0xF6, 0x9C] (.incZpx 0x9C) &&
    reads [0xFE, 0x34, 0x92] (.incAbx 0x9234) &&
    reads [0xC6, 0x9C] (.decZp 0x9C) &&
    reads [0xCE, 0x34, 0x92] (.decAbs 0x9234) &&
    reads [0xD6, 0x9C] (.decZpx 0x9C) &&
    reads [0xDE, 0x34, 0x92] (.decAbx 0x9234) &&
    reads [0xE8] .inx &&
    reads [0xC8] .iny &&
    reads [0xCA] .dex &&
    reads [0x88] .dey) = true := by decide

/-- JMP, JSR, RTS, BRK, RTI, BCC, BCS, BEQ, BNE, BMI, BPL, BVC, BVS (rules R221 to R240). -/
theorem test_decode_control :
    (reads [0x4C, 0x34, 0x92] (.jmpAbs 0x9234) &&
    reads [0x6C, 0x34, 0x92] (.jmpInd 0x9234) &&
    reads [0x20, 0x34, 0x92] (.jsr 0x9234) &&
    reads [0x60] .rts &&
    reads [0x00] .brk &&
    reads [0x40] .rti &&
    reads [0x90, 0x9C] (.bcc 0x9C) &&
    reads [0xB0, 0x9C] (.bcs 0x9C) &&
    reads [0xF0, 0x9C] (.beq 0x9C) &&
    reads [0xD0, 0x9C] (.bne 0x9C) &&
    reads [0x30, 0x9C] (.bmi 0x9C) &&
    reads [0x10, 0x9C] (.bpl 0x9C) &&
    reads [0x50, 0x9C] (.bvc 0x9C) &&
    reads [0x70, 0x9C] (.bvs 0x9C)) = true := by decide

/-- CLC, SEC, CLI, SEI, CLV, CLD, SED (rules R241 to R247). -/
theorem test_decode_flags :
    (reads [0x18] .clc &&
    reads [0x38] .sec &&
    reads [0x58] .cli &&
    reads [0x78] .sei &&
    reads [0xB8] .clv &&
    reads [0xD8] .cld &&
    reads [0xF8] .sed) = true := by decide

/-- NOP (rules R248, R261). -/
theorem test_decode_nop :
    (reads [0x04, 0x9C] (.nopZp04 0x9C) &&
    reads [0x0C, 0x34, 0x92] (.nopAbs0C 0x9234) &&
    reads [0x14, 0x9C] (.nopZpx14 0x9C) &&
    reads [0x1A] .nop1A &&
    reads [0x1C, 0x34, 0x92] (.nopAbx1C 0x9234) &&
    reads [0x34, 0x9C] (.nopZpx34 0x9C) &&
    reads [0x3A] .nop3A &&
    reads [0x3C, 0x34, 0x92] (.nopAbx3C 0x9234) &&
    reads [0x44, 0x9C] (.nopZp44 0x9C) &&
    reads [0x54, 0x9C] (.nopZpx54 0x9C) &&
    reads [0x5A] .nop5A &&
    reads [0x5C, 0x34, 0x92] (.nopAbx5C 0x9234) &&
    reads [0x64, 0x9C] (.nopZp64 0x9C) &&
    reads [0x74, 0x9C] (.nopZpx74 0x9C) &&
    reads [0x7A] .nop7A &&
    reads [0x7C, 0x34, 0x92] (.nopAbx7C 0x9234) &&
    reads [0x80, 0x9C] (.nopImm80 0x9C) &&
    reads [0xD4, 0x9C] (.nopZpxD4 0x9C) &&
    reads [0xDA] .nopDA &&
    reads [0xDC, 0x34, 0x92] (.nopAbxDC 0x9234) &&
    reads [0xEA] .nop &&
    reads [0xF4, 0x9C] (.nopZpxF4 0x9C) &&
    reads [0xFA] .nopFA &&
    reads [0xFC, 0x34, 0x92] (.nopAbxFC 0x9234)) = true := by decide

/-- LAX, SAX (rules R262, R263). -/
theorem test_decode_lax_sax :
    (reads [0xA3, 0x9C] (.laxIzx 0x9C) &&
    reads [0xA7, 0x9C] (.laxZp 0x9C) &&
    reads [0xAF, 0x34, 0x92] (.laxAbs 0x9234) &&
    reads [0xB3, 0x9C] (.laxIzy 0x9C) &&
    reads [0xB7, 0x9C] (.laxZpy 0x9C) &&
    reads [0xBF, 0x34, 0x92] (.laxAby 0x9234) &&
    reads [0x83, 0x9C] (.saxIzx 0x9C) &&
    reads [0x87, 0x9C] (.saxZp 0x9C) &&
    reads [0x8F, 0x34, 0x92] (.saxAbs 0x9234) &&
    reads [0x97, 0x9C] (.saxZpy 0x9C)) = true := by decide

/-- SLO, RLA, SRE (rules R266 to R268). -/
theorem test_decode_slo_rla_sre :
    (reads [0x03, 0x9C] (.sloIzx 0x9C) &&
    reads [0x07, 0x9C] (.sloZp 0x9C) &&
    reads [0x0F, 0x34, 0x92] (.sloAbs 0x9234) &&
    reads [0x13, 0x9C] (.sloIzy 0x9C) &&
    reads [0x17, 0x9C] (.sloZpx 0x9C) &&
    reads [0x1B, 0x34, 0x92] (.sloAby 0x9234) &&
    reads [0x1F, 0x34, 0x92] (.sloAbx 0x9234) &&
    reads [0x23, 0x9C] (.rlaIzx 0x9C) &&
    reads [0x27, 0x9C] (.rlaZp 0x9C) &&
    reads [0x2F, 0x34, 0x92] (.rlaAbs 0x9234) &&
    reads [0x33, 0x9C] (.rlaIzy 0x9C) &&
    reads [0x37, 0x9C] (.rlaZpx 0x9C) &&
    reads [0x3B, 0x34, 0x92] (.rlaAby 0x9234) &&
    reads [0x3F, 0x34, 0x92] (.rlaAbx 0x9234) &&
    reads [0x43, 0x9C] (.sreIzx 0x9C) &&
    reads [0x47, 0x9C] (.sreZp 0x9C) &&
    reads [0x4F, 0x34, 0x92] (.sreAbs 0x9234) &&
    reads [0x53, 0x9C] (.sreIzy 0x9C) &&
    reads [0x57, 0x9C] (.sreZpx 0x9C) &&
    reads [0x5B, 0x34, 0x92] (.sreAby 0x9234) &&
    reads [0x5F, 0x34, 0x92] (.sreAbx 0x9234)) = true := by decide

/-- RRA, DCP, ISB (rules R269 to R271). -/
theorem test_decode_rra_dcp_isb :
    (reads [0x63, 0x9C] (.rraIzx 0x9C) &&
    reads [0x67, 0x9C] (.rraZp 0x9C) &&
    reads [0x6F, 0x34, 0x92] (.rraAbs 0x9234) &&
    reads [0x73, 0x9C] (.rraIzy 0x9C) &&
    reads [0x77, 0x9C] (.rraZpx 0x9C) &&
    reads [0x7B, 0x34, 0x92] (.rraAby 0x9234) &&
    reads [0x7F, 0x34, 0x92] (.rraAbx 0x9234) &&
    reads [0xC3, 0x9C] (.dcpIzx 0x9C) &&
    reads [0xC7, 0x9C] (.dcpZp 0x9C) &&
    reads [0xCF, 0x34, 0x92] (.dcpAbs 0x9234) &&
    reads [0xD3, 0x9C] (.dcpIzy 0x9C) &&
    reads [0xD7, 0x9C] (.dcpZpx 0x9C) &&
    reads [0xDB, 0x34, 0x92] (.dcpAby 0x9234) &&
    reads [0xDF, 0x34, 0x92] (.dcpAbx 0x9234) &&
    reads [0xE3, 0x9C] (.isbIzx 0x9C) &&
    reads [0xE7, 0x9C] (.isbZp 0x9C) &&
    reads [0xEF, 0x34, 0x92] (.isbAbs 0x9234) &&
    reads [0xF3, 0x9C] (.isbIzy 0x9C) &&
    reads [0xF7, 0x9C] (.isbZpx 0x9C) &&
    reads [0xFB, 0x34, 0x92] (.isbAby 0x9234) &&
    reads [0xFF, 0x34, 0x92] (.isbAbx 0x9234)) = true := by decide

/-! ### WellFormed: what each check refuses (rules R118, R260) -/

/-- A machine without unofficial opcodes. -/
def officialOnly : Config := { Config.standard with unofficialSet := [] }

theorem test_wellFormed_refuses_left_out : Instr.wellFormed officialOnly (.laxZp 0x10) = false := by decide
theorem test_wellFormed_accepts :
    Instr.wellFormed officialOnly (.ldaZp 0x10) = true ∧ Instr.wellFormed Config.standard (.laxZp 0x10) = true := by
  decide
/-- 0xA9 is official and 0x02 undefined: neither may stand in `UnofficialSet`. -/
theorem test_config_wellFormed_refuses :
    Config.wellFormed { Config.standard with unofficialSet := [0xA9] } = false ∧
    Config.wellFormed { Config.standard with unofficialSet := [0xA7, 0x02] } = false ∧
    Config.wellFormed Config.standard = true := by decide

/-! ### Undefined bytes (rules R132, R301) -/

theorem test_decode_undefined :
    decode [0x02] = .error (.undefinedOpcode 0x02) ∧ decode [0x8B, 0x00] = .error (.undefinedOpcode 0x8B) ∧
    decode [0x9E, 0x00, 0x10] = .error (.undefinedOpcode 0x9E) ∧ decode [0xAD, 0x00] = .error .truncated := by
  refine ⟨rfl, rfl, rfl, rfl⟩

/-- The three fault vectors of spec/95_test_vectors.md section 2.5. -/
theorem test_fault_vectors :
    (∃ s, fetchExecute s = .fault (.unknownOpcode 0x02 0xC000 s)) ∧
    (∃ s, fetchExecute s = .fault (.unknownOpcode 0x8B 0xC000 s)) ∧
    ∃ s, fetchExecute s = .fault (.unknownOpcode 0x9E 0xC000 s) :=
  ⟨⟨flat 0xC000 ⟨0, 0, 0, 0xFD, 0x24⟩ (memOf [(0xC000, 0x02)]), rfl⟩,
    ⟨flat 0xC000 ⟨0, 0, 0, 0xFD, 0x24⟩ (memOf [(0xC000, 0x8B)]), rfl⟩,
    ⟨flat 0xC000 ⟨0, 0, 0, 0xFD, 0x24⟩ (memOf [(0xC000, 0x9E)]), rfl⟩⟩

/-! ### Interrupts (spec/95_test_vectors.md section 3) -/

/-- The memory of that section. -/
def vectors : Memory := memOf [(0xFFFB, 0xD0), (0xFFFF, 0xE0), (0xC123, 0xEA)]

/-- A machine at C123 with the given `S`, `P` and latches. -/
def atBoundary (sp p : Byte) (nmi irq : Bool) : State :=
  let s := flat 0xC123 ⟨0, 0, 0, sp, p⟩ vectors
  { s with cpu := { s.cpu with nmiLatch := nmi, irqLatch := irq } }

/-- `PC`, `S`, `P`, latches, countdown, and the bytes at three addresses after a CPU tick. -/
def ticksTo (s : State) (pc : Word) (sp p : Byte) (nmi irq : Bool) (wait : Nat) (stack : List (Nat × Byte)) : Bool :=
  match cpuTick s with
  | .next t =>
    t.cpu.pc == pc && t.cpu.s == sp && t.cpu.pbyte t.cpu.b == p && t.cpu.nmiLatch == nmi && t.cpu.irqLatch == irq &&
      t.cpu.waitCycles == wait && stack.all (fun c => (flatMemory t).read c.1 == c.2)
  | .fault _ => false
  | .refused _ => false

theorem test_interrupt_entry :
    ticksTo (atBoundary 0xFD 0x21 true false) 0xD000 0xFA 0x25 false false 6
      [(0x01FD, 0xC1), (0x01FC, 0x23), (0x01FB, 0x21)] = true ∧
    ticksTo (atBoundary 0xFD 0x25 true false) 0xD000 0xFA 0x25 false false 6 [(0x01FB, 0x25)] = true ∧
    ticksTo (atBoundary 0xFD 0x21 false true) 0xE000 0xFA 0x25 false false 6
      [(0x01FD, 0xC1), (0x01FC, 0x23), (0x01FB, 0x21)] = true ∧
    ticksTo (atBoundary 0xFD 0x25 false true) 0xC124 0xFD 0x25 false true 1 [] = true ∧
    ticksTo (atBoundary 0xFD 0x21 true true) 0xD000 0xFA 0x25 false true 6 [] = true ∧
    ticksTo (atBoundary 0x01 0x21 true false) 0xD000 0xFE 0x25 false false 6
      [(0x0101, 0xC1), (0x0100, 0x23), (0x01FF, 0x21)] = true := by decide

/-- The countdown comes before a latched NMI. -/
theorem test_countdown_first :
    ticksTo (setWait (atBoundary 0xFD 0x21 true false) 3) 0xC123 0xFD 0x21 true false 2 [] = true := by decide

/-! ### The bus (spec/95_test_vectors.md section 4) -/

/-- A machine at an instruction boundary, `PC` and work RAM given, whose cartridge declines everything. -/
def ready (pc : Word) (cells : List (Nat × Byte)) : State :=
  let s := blank
  { s with cpu := { s.cpu with pc := pc, waitCycles := 0 }, ram := memOf cells }

/-- Accesses in order: a write where a byte is given, else a read; the values of the reads. -/
def accesses : List (Word × Option Byte) → State → State × List Byte
  | [], s => (s, [])
  | (a, some v) :: rest, s => accesses rest (memWrite s a v)
  | (a, none) :: rest, s =>
    let r := memRead s a
    let t := accesses rest r.2
    (t.1, r.1 :: t.2)

/-- The values read. -/
def valuesRead (l : List (Word × Option Byte)) (s : State) : List Byte := (accesses l s).2

theorem test_bus_mirrors :
    valuesRead [(0x0000, some 0x5A), (0x0800, none), (0x1000, none), (0x1800, none), (0x1FFF, some 0x77), (0x07FF, none)]
      blank = [0x5A, 0x5A, 0x5A, 0x77] := by decide
theorem test_bus_unclaimed :
    valuesRead [(0x4018, none), (0x5000, none), (0x8000, some 0x12), (0x8000, none), (0xFFFC, none), (0x4000, none),
      (0x4014, none)] blank = [0, 0, 0, 0, 0, 0] := by decide
theorem test_bus_ports :
    (memWrite blank 0x2009 0x1E).ppu.mask = 0x1E ∧
    (memWrite blank 0x4014 0x02).dma = ⟨0x02, 0x00, 0, true, true⟩ ∧
    (memWrite blank 0x4017 0xC0).apu.fcMode = true ∧ (memWrite blank 0x4017 0xC0).pad1 = ⟨0, 0⟩ := by decide

/-- Section 5.10: buttons 0x90, then nine reads. -/
theorem test_controller :
    valuesRead ((0x4016, some 0x00) :: List.replicate 9 (0x4016, none))
      { blank with pad0 := ⟨0x90, 0⟩ } = [1, 0, 0, 1, 0, 0, 0, 0, 0] := by decide

/-! ### DMA, the master tick (spec/95_test_vectors.md sections 5.1, 5.5) -/

/-- A transfer from page 2 about to start, 0xA5 at 0x0200, at the given `cyc`. -/
def dmaMachine (cyc : Nat) : State :=
  let s := memWrite (ready 0x0000 [(0x0200, 0xA5)]) 0x4014 0x02
  { s with cyc := cyc }

theorem test_dma_alignment :
    (dmaStep (dmaMachine 13)).dma = ⟨0x02, 0x00, 0, true, false⟩ ∧
    (dmaStep (dmaMachine 10)).dma = ⟨0x02, 0x00, 0xA5, true, false⟩ := by decide
theorem test_dma_write :
    let s := dmaStep { dmaStep (dmaMachine 10) with cyc := 11 }
    s.ppu.oam.read 0 = 0xA5 ∧ s.dma = ⟨0x02, 0x01, 0xA5, true, false⟩ := by decide

/-- Master tick 0 of the power-on timeline. -/
theorem test_power_on_tick :
    ∃ t, step State.reset = .next t ∧ t.master = 1 ∧ t.cyc = 1 ∧ t.cpu.waitCycles = 6 ∧ t.apu.fcPos = 1 ∧
      t.ppu.scanline = 0 ∧ t.ppu.cycle = 1 := ⟨_, rfl, by decide⟩

/-- `LDA #$80` placed where the next step fetches, then run by that step. -/
theorem test_withFetchWord :
    decodeTableWord 16 0x80A9 = some (.ldaImm 0x80) ∧
    ∃ t, step (State.reset.withFetchWord 16 0x80A9) = .next t ∧ t.cpu.a = 0x80 ∧ t.cpu.n = true ∧
      t.cpu.waitCycles = 1 := ⟨rfl, _, rfl, by decide⟩

/-- An opcode byte alone, its operand bytes zero; an undefined byte gives no instruction. -/
theorem test_decodeTableWord :
    decodeTableWord 8 0x6D = some (.adcAbs 0x0000) ∧ decodeTableWord 8 0x02 = none ∧
    decodeTableWord 24 0x12344C = some (.jmpAbs 0x1234) := by decide

/-! ### The PPU (spec/95_test_vectors.md sections 5.2, 5.6 to 5.8) -/

/-- The steps of the port sequence of section 5.6, with the values its reads return. -/
theorem test_ppu_ports_read :
    valuesRead
      [(0x2002, none), (0x2006, some 0x3F), (0x2006, some 0x10), (0x2007, some 0x2C), (0x2006, some 0x3F),
        (0x2006, some 0x00), (0x2007, none), (0x2006, some 0x20), (0x2006, some 0x00), (0x2007, some 0x11),
        (0x2007, some 0x22), (0x2006, some 0x20), (0x2006, some 0x00), (0x2007, none), (0x2007, none), (0x2007, none)]
      blank = [0x00, 0x2C, 0x2C, 0x11, 0x22] := by decide
theorem test_ppu_ports_write :
    let s := (accesses
      [(0x2000, some 0x04), (0x2006, some 0x20), (0x2006, some 0x00), (0x2007, some 0x33), (0x2005, some 0x7D),
        (0x2005, some 0x5E), (0x2003, some 0x03), (0x2004, some 0xAA), (0x2004, some 0xBB)] blank).1
    s.ppu.vramAddr = 0x2020#15 ∧ s.ppu.fineX = 5 ∧ s.ppu.tramAddr = 0x616F#15 ∧
    s.ppu.oam.read 3 = 0xAA ∧ s.ppu.oam.read 4 = 0xBB ∧ s.ppu.oamAddr = 0x05 := by decide

/-- A byte written at one PPU address, read at another, under a mirroring mode. -/
def ppuEcho (m : Mirroring) (a b : PpuAddr) (v : Byte) : Byte :=
  ppuRead (ppuWrite { blank with cart := .board { Board.empty with mirroring := m } } a v) b

theorem test_palette_aliases :
    ppuEcho .horizontal 0x3F10 0x3F00 0x2C = 0x2C ∧ ppuEcho .horizontal 0x3F04 0x3F14 0x11 = 0x11 ∧
    ppuEcho .horizontal 0x3F18 0x3F08 0x12 = 0x12 ∧ ppuEcho .horizontal 0x3F0C 0x3F1C 0x13 = 0x13 ∧
    ppuEcho .horizontal 0x3F10 0x3FF0 0x2C = 0x2C ∧ ppuEcho .horizontal 0x3F01 0x3F01 0xFF = 0xFF ∧
    ppuEcho .horizontal 0x3F01 0x3F11 0xFF = 0x00 := by decide
theorem test_mirroring :
    ([0x2805, 0x3005, 0x3805, 0x2405, 0x2C05].map fun b => ppuEcho .vertical 0x2005 b 0x5A) =
      [0x5A, 0x5A, 0x5A, 0, 0] ∧
    ([0x2405, 0x3005, 0x3405, 0x2805, 0x2C05].map fun b => ppuEcho .horizontal 0x2005 b 0x5A) =
      [0x5A, 0x5A, 0x5A, 0, 0] ∧
    ([0x2405, 0x2805, 0x2C05, 0x3005].map fun b => ppuEcho .singleScreen 0x2005 b 0x5A) = [0x5A, 0x5A, 0x5A, 0x5A] ∧
    ([0x3005, 0x2405, 0x2805, 0x2C05].map fun b => ppuEcho .fourScreen 0x2005 b 0x5A) = [0x5A, 0, 0, 0] := by decide

/-- Section 5.7: addresses and scroll arithmetic for `vram_addr` = 0x5926. -/
theorem test_background_addresses :
    tileIdAddr 0x5926 = 0x2926 ∧ attributeAddr 0x5926 = 0x2BD1 ∧ attributeQuadrant 0x5926 0xB4 = 1 ∧
    patternAddr 0x10 0x4A 5 false = 0x14A5 ∧ patternAddr 0x10 0x4A 5 true = 0x14AD := by decide
theorem test_scroll_increments :
    incrementX 0x593F#15 = 0x5D20#15 ∧ incrementX 0x5926#15 = 0x5927#15 ∧ incrementY 0x5926#15 = 0x6926#15 ∧
    incrementY 0x73A6#15 = 0x0806#15 ∧ incrementY 0x73E6#15 = 0x0006#15 ∧ incrementY 0x73C6#15 = 0x03E6#15 ∧
    transferX 0x5926#15 0x616F#15 = 0x592F#15 ∧ transferY 0x592F#15 0x616F#15 = 0x616F#15 := by decide

/-- Section 5.8: the range test and the pattern addresses of rules R420 and R421. -/
theorem test_sprite_range :
    inRange 99 8 0x5C = true ∧ inRange 99 8 0x5B = false ∧ inRange 99 8 0x64 = false ∧ inRange 99 16 0x5B = true := by
  decide
theorem test_sprite_addresses :
    spritePatternAddr 0x00 ⟨0, 0x10, 0x00, 0⟩ (spriteRow 0x00 2 ⟨0, 0x10, 0x00, 0⟩) = 0x0102 ∧
    spritePatternAddr 0x00 ⟨0, 0x10, 0x80, 0⟩ (spriteRow 0x00 2 ⟨0, 0x10, 0x80, 0⟩) = 0x0105 ∧
    spritePatternAddr 0x20 ⟨0, 0x41, 0x00, 0⟩ (spriteRow 0x20 11 ⟨0, 0x41, 0x00, 0⟩) = 0x1413 ∧
    spritePatternAddr 0x20 ⟨0, 0x41, 0x80, 0⟩ (spriteRow 0x20 11 ⟨0, 0x41, 0x80, 0⟩) = 0x1404 ∧
    bitReverse8 0xC1 = 0x83 := by decide
theorem test_pixel_composition :
    paletteAddr ⟨3, 2⟩ = 0x3F0B ∧ paletteAddr (combine ⟨0, 0⟩ ⟨⟨2, 5⟩, true, false⟩) = 0x3F16 ∧
    paletteAddr (combine ⟨1, 0⟩ ⟨⟨2, 5⟩, false, false⟩) = 0x3F01 ∧
    paletteAddr (combine ⟨0, 3⟩ ⟨⟨0, 5⟩, false, false⟩) = 0x3F00 ∧
    pixelValue 0x00 0x7A = 0x3A ∧ pixelValue 0x01 0x7A = 0x30 := by decide

/-- Section 5.2: dot (241, 1) sets `vblank` and requests an NMI; after a status read on the dot before it does
neither (section 5.4). -/
theorem test_vblank :
    let s := blank
    let atDot (raced : Bool) : State :=
      { s with ppu := { s.ppu with scanline := 241, cycle := 1, ctrl := 0x80, statusReadThisTick := raced } }
    (ppuTick (atDot false)).ppu.vblank = true ∧ (ppuTick (atDot false)).cpu.nmiLatch = true ∧
    (ppuTick (atDot true)).ppu.vblank = false ∧ (ppuTick (atDot true)).cpu.nmiLatch = false := by decide

/-- Section 5.2: the odd frame's first dot is skipped when rendering is enabled; the last dot wraps the frame. -/
theorem test_cursor :
    let s := blank
    let at0 := ppuTick { s with ppu := { s.ppu with scanline := 0, cycle := 0, oddFrame := true, mask := 0x08 } }
    let last := ppuTick { s with ppu := { s.ppu with scanline := 260, cycle := 340 } }
    at0.ppu.cycle = 2 ∧ last.ppu.scanline = -1 ∧ last.ppu.cycle = 0 ∧ last.ppu.oddFrame = true := by decide

/-! ### The APU (spec/95_test_vectors.md section 5.9) -/

/-- An APU with a flag raised, pulse 1 at 5 and noise at 1. -/
def runningApu : Apu :=
  let a := Apu.powerOn
  { a with
    frameIrq := true
    pulse1 := { a.pulse1 with length := ⟨5, true⟩ }
    noise := { a.noise with length := ⟨1, true⟩ } }

theorem test_apu_status :
    valuesRead [(0x4015, none), (0x4015, none)] { blank with apu := runningApu } = [0x49, 0x09] := by decide
theorem test_apu_frame_counter :
    let inhibited := runningApu.write 0x17 0x40
    let five := runningApu.write 0x17 0x80
    inhibited.fcMode = false ∧ inhibited.fcIrqInhibit = true ∧ inhibited.frameIrq = false ∧ inhibited.fcPos = 0 ∧
    inhibited.pulse1.length.len = 5 ∧ five.fcMode = true ∧ five.frameIrq = true ∧ five.pulse1.length.len = 4 := by
  decide
theorem test_apu_frame_irq :
    let a := { Apu.powerOn with fcPos := 14914 }
    a.step.frameIrq = true ∧ a.step.fcPos = 0 ∧ ({ a with fcMode := true } : Apu).step.frameIrq = false := by decide
theorem test_apu_length :
    (runningApu.write 0x15 0x00).pulse1.length = ⟨0, false⟩ ∧ (runningApu.write 0x15 0x00).frameIrq = true ∧
    (Apu.powerOn.write 0x03 0xF8).pulse1.length.len = 0 ∧ (runningApu.write 0x03 0xF8).pulse1.length.len = 30 ∧
    (Length.mk 1 true).clock false = ⟨0, true⟩ ∧ (Length.mk 0 true).clock false = ⟨0, true⟩ ∧
    (Length.mk 5 true).clock true = ⟨5, true⟩ := by decide
theorem test_apu_envelope :
    let e1 := (Envelope.mk true 0 0 0).clock 0x03
    e1 = ⟨false, 3, 15, 15⟩ ∧ (((e1.clock 0x03).clock 0x03).clock 0x03) = ⟨false, 0, 15, 15⟩ ∧
    (Envelope.mk false 0 15 15).clock 0x03 = ⟨false, 3, 14, 14⟩ ∧
    (Envelope.mk false 0 0 0).clock 0x23 = ⟨false, 3, 15, 15⟩ ∧ ((Envelope.mk false 0 7 0).clock 0x19).output = 9 := by
  decide
/-- Rules R464, R465: pulse 1 moves by one less than pulse 2 when the change is subtracted. -/
theorem test_apu_sweep :
    let p : Pulse := { Pulse.powerOn with sweep := 0x89, timer := 0x100 }
    (p.clockSweep true).timer = 0x07F ∧ (p.clockSweep false).timer = 0x080 := by decide

/-! ### Witnesses: for each obligation with hypotheses, a concrete state and operands that meet them all -/

section Witnesses

open Sys2Proof.Claims

/-- A cartridge that declines everything declines every address. -/
theorem empty_declines {s : State} (h : s.cart = .board Board.empty) (a : Word) : declines s a := by
  have hc : Board.empty.claimsCpu a = false := decide_eq_false (Nat.not_le_of_lt a.isLt)
  simp [declines, h, Cart.cpuTryRead, Cart.cpuWrite, hc]

/-- Such a cartridge leaves the stack page to work RAM. -/
theorem empty_stackIsRam {s : State} (h : s.cart = .board Board.empty) : stackIsRam s :=
  fun _ => empty_declines h _

/-- A machine whose pushes wrap around the stack page: `S` is 0. -/
def lowStack : State :=
  let s := ready 0x0203 []
  { s with cpu := { s.cpu with s := 0x00 } }

theorem witness_EncodeOfDecode : decode [0xA9, 0xFF, 0x55] = .ok (.ldaImm 0xFF, [0x55]) := rfl

theorem witness_UndefinedBytesRefused :
    0x02 ∈ undefinedBytes ∧ 0xBB ∈ undefinedBytes ∧ 0x00 ∉ undefinedBytes ∧ 0xFF ∉ undefinedBytes := by decide

/-- The lists of rows that the statements about what a form does range over have the rows of rule R119. -/
theorem witness_rows :
    ([ldaRows, adcRows, sbcRows, andRows, oraRows, eorRows, cmpRows].all fun r => (r 0xFF 0xFFFF).length == 8) = true ∧
    ([sloRows, rlaRows, sreRows, rraRows, dcpRows, isbRows, staRows].all fun r => (r 0xFF 0xFFFF).length == 7) = true ∧
    ([aslRows, lsrRows, rolRows, rorRows, incRows, decRows, saxRows].all fun r => (r 0xFF 0xFFFF).length == 4) = true ∧
    ([ldxRows, ldyRows].all fun r => (r 0xFF 0xFFFF).length == 5) = true ∧
    ([cpxRows, cpyRows, stxRows, styRows].all fun r => (r 0xFF 0xFFFF).length == 3) = true ∧
    (laxRows 0xFF 0xFFFF).length = 6 ∧ (bitRows 0xFF 0xFFFF).length = 2 ∧ (sbcEbRows 0xFF 0xFFFF).length = 1 ∧
    (nopRows 0xFF 0xFFFF).length = 17 ∧ branches.length = 8 := by decide

theorem witness_RtsReturnsFromJsr :
    ∃ t, stackIsRam lowStack ∧ lowStack.ram.wf Config.ramSize = true ∧ exec (.jsr 0x1234) lowStack = .next t ∧
      stackIsRam t ∧ t.cpu.s = t.cpu.s ∧
      ∀ k : Byte, (k = 1 ∨ k = 2) → t.ram.read (cell (t.cpu.s + k)).toNat = t.ram.read (cell (t.cpu.s + k)).toNat :=
  ⟨_, empty_stackIsRam rfl, by decide, rfl, empty_stackIsRam rfl, rfl, fun _ _ => rfl⟩

theorem witness_RtiReturnsFromInterrupt :
    let t := interruptEntry lowStack 0xFFFA
    stackIsRam lowStack ∧ lowStack.ram.wf Config.ramSize = true ∧ stackIsRam t ∧ t.cpu.s = t.cpu.s ∧
      ∀ k : Byte, (k = 1 ∨ k = 2 ∨ k = 3) →
        t.ram.read (cell (t.cpu.s + k)).toNat = t.ram.read (cell (t.cpu.s + k)).toNat :=
  ⟨empty_stackIsRam rfl, by decide, empty_stackIsRam rfl, rfl, fun _ _ => rfl⟩

/-- The row form at its page boundary, a register form, a machine with a board. -/
theorem witness_NonStoringFormsKeepMemory :
    (.ldaAbx 0x20FF ∈ (readingRows 0xFF 0x20FF).map (fun r => r.instr) ++ registerForms 0xFF 0x20FF) ∧
    (.jmpInd 0x20FF ∈ (readingRows 0xFF 0x20FF).map (fun r => r.instr) ++ registerForms 0xFF 0x20FF) ∧
    (∃ t, exec (.ldaAbx 0x20FF) lowStack = .next t) ∧ (∃ t, exec (.jmpInd 0x20FF) lowStack = .next t) ∧
    lowStack.cart = .board Board.empty := ⟨by decide, by decide, ⟨_, rfl⟩, ⟨_, rfl⟩, rfl⟩

/-- A store at the last work RAM address, and one at the first port. -/
theorem witness_StoringFormsKeepOtherMemory :
    (∃ r ∈ storingRows 0xFF 0x1FFF, r.instr = .staAbs 0x1FFF ∧ (resolve r.operand lowStack).ea = 0x1FFF) ∧
    (∃ r ∈ storingRows 0xFF 0x2000, r.instr = .incAbs 0x2000 ∧ (resolve r.operand lowStack).ea = 0x2000) ∧
    (∃ t, exec (.staAbs 0x1FFF) lowStack = .next t) ∧ (∃ t, exec (.incAbs 0x2000) lowStack = .next t) ∧
    lowStack.cart = .board Board.empty ∧ lowStack.cart.wf = true ∧ lowStack.ram.wf Config.ramSize = true :=
  ⟨⟨⟨.staAbs 0x1FFF, 0x8D, .abs 0x1FFF, 4, false⟩, by simp [storingRows, staRows], rfl, rfl⟩,
    ⟨⟨.incAbs 0x2000, 0xEE, .abs 0x2000, 6, false⟩, by simp [storingRows, incRows, fourModes], rfl, rfl⟩,
    ⟨_, rfl⟩, ⟨_, rfl⟩, rfl, by decide, by decide⟩

theorem witness_PushingFormsKeepOtherMemory :
    ((.brk, 3) ∈ pushingForms 0x1234 ∧ (.pha, 1) ∈ pushingForms 0x1234) ∧
    lowStack.cart = .board Board.empty ∧ stackIsRam lowStack ∧ lowStack.ram.wf Config.ramSize = true ∧
    (∃ t, exec .brk lowStack = .next t) ∧ ∃ t, exec .pha lowStack = .next t :=
  ⟨by decide, rfl, empty_stackIsRam rfl, by decide, ⟨_, rfl⟩, ⟨_, rfl⟩⟩

/-- One machine for each clause. -/
theorem witness_CpuTickPriority :
    0 < (setWait lowStack 1).cpu.waitCycles ∧
    ((atBoundary 0xFD 0x25 true true).cpu.waitCycles = 0 ∧ (atBoundary 0xFD 0x25 true true).cpu.nmiLatch = true) ∧
    ((atBoundary 0xFD 0x21 false true).cpu.waitCycles = 0 ∧ (atBoundary 0xFD 0x21 false true).cpu.nmiLatch = false ∧
      (atBoundary 0xFD 0x21 false true).cpu.irqLatch = true ∧ (atBoundary 0xFD 0x21 false true).cpu.i = false) ∧
    readyToFetch (atBoundary 0xFD 0x25 false true) ∧ readyToFetch lowStack :=
  ⟨by decide, ⟨rfl, rfl⟩, ⟨rfl, rfl, rfl, by decide⟩, ⟨rfl, rfl, .inr (by decide)⟩, ⟨rfl, rfl, .inl rfl⟩⟩

theorem witness_CountdownTicksChangeNothing :
    0 ≤ blank.cpu.waitCycles ∧ 7 ≤ blank.cpu.waitCycles := by decide

/-- An undefined byte, an unofficial one left out, an unofficial one admitted, an official one. -/
theorem witness_UnknownOpcodeFaults :
    (readyToFetch (ready 0x0200 [(0x0200, 0x02)]) ∧ peek (ready 0x0200 [(0x0200, 0x02)]) 0x0200 ∈ undefinedBytes) ∧
    (let s := { ready 0x0200 [(0x0200, 0xA7)] with cfg := officialOnly }
     readyToFetch s ∧ peek s 0x0200 ∈ unofficialBytes ∧ peek s 0x0200 ∉ s.cfg.unofficialSet) ∧
    (let s := ready 0x0200 [(0x0200, 0xA7)]
     readyToFetch s ∧ peek s 0x0200 ∉ undefinedBytes ∧ peek s 0x0200 ∈ s.cfg.unofficialSet) ∧
    (let s := ready 0x0200 [(0x0200, 0xA5)]
     readyToFetch s ∧ peek s 0x0200 ∉ undefinedBytes ∧ peek s 0x0200 ∉ unofficialBytes) :=
  ⟨⟨⟨rfl, rfl, .inl rfl⟩, by decide⟩, ⟨⟨rfl, rfl, .inl rfl⟩, by decide⟩, ⟨⟨rfl, rfl, .inl rfl⟩, by decide⟩,
    ⟨rfl, rfl, .inl rfl⟩, by decide⟩

theorem witness_OnlyUnknownOpcodeStops : ∃ f, step (ready 0x0200 [(0x0200, 0x02)]) = .fault f := ⟨_, rfl⟩

/-- The three-byte `STA $0010` at the last place in work RAM that holds it. -/
theorem witness_StepRunsDecodedInstruction :
    let s := ready 0x1FFD [(0x07FD, 0x8D), (0x07FE, 0x10)]
    let p := ppuPart s
    s.master % 3 = 0 ∧ p.dma.transfer = false ∧ readyToFetch p ∧ Instr.wellFormed p.cfg (.staAbs 0x0010) = true ∧
    ∀ k, (h : k < (encode (.staAbs 0x0010)).length) →
      peek p (p.cpu.pc + BitVec.ofNat 16 k) = (encode (.staAbs 0x0010))[k] ∧
      readEffects p (p.cpu.pc + BitVec.ofNat 16 k) = p := by
  refine ⟨by decide, by decide, ⟨by decide, by decide, .inl (by decide)⟩, by decide, ?_⟩
  intro k h
  have hk : k = 0 ∨ k = 1 ∨ k = 2 := by
    have : k < 3 := h
    omega
  rcases hk with rfl | rfl | rfl <;> exact ⟨rfl, rfl⟩

/-- The boundary addresses of each clause, on a machine whose cartridge declines everything. -/
theorem witness_bus_addresses :
    (∀ a : Word, blank.cart.cpuTryRead a = none ∧ ∀ v, blank.cart.cpuWrite a v = none) ∧
    ([0x4000, 0x4014].all fun a : Word => decide (0x4000 ≤ a.toNat ∧ a.toNat ≤ 0x4014)) = true ∧
    ([0x4018, 0xFFFF].all fun a : Word => decide (0x4018 ≤ a.toNat)) = true ∧
    ([0x2000, 0x3FFE].all fun a : Word => decide (0x2000 ≤ a.toNat ∧ a.toNat < 0x4000 ∧ a.toNat % 8 ∉ [2, 4, 7])) = true ∧
    ([0x2002, 0x3FFA].all fun a : Word => decide (0x2000 ≤ a.toNat ∧ a.toNat < 0x4000 ∧ a.toNat % 8 = 2)) = true ∧
    ([0x2007, 0x3FFF].all fun a : Word => decide (0x2000 ≤ a.toNat ∧ a.toNat < 0x4000 ∧ a.toNat % 8 = 7)) = true ∧
    ((0x4015#16).toNat = 0x4015 ∧ (0x4016#16).toNat = 0x4016 ∧ (0x4017#16).toNat = 0x4017) :=
  ⟨fun a => empty_declines rfl a, by decide, by decide, by decide, by decide, by decide, by decide⟩

/-- A cartridge that claims the CPU addresses from 0x8000 up and the pattern tables, all of it writable. -/
def claiming : Cart :=
  .board { Board.empty with cpuBase := 0x8000, cpuWritable := true, chrClaimed := true, chrWritable := true }

/-- Claimed accesses at both ends of the cartridge's CPU range, declined ones next to it. -/
theorem witness_claimed_cpu :
    ([0x8000, 0xFFFF].all fun a => claiming.cpuTryRead a == some 0 && (claiming.cpuWrite a 7).isSome) = true ∧
    ((claiming.cpuTryRead 0x7FFF).isNone && (claiming.cpuWrite 0x7FFF 7).isNone) = true := by decide

/-- Claimed accesses at both ends of the pattern tables, declined ones next to them and in a pattern table that the
cartridge leaves. -/
theorem witness_claimed_ppu :
    ([0x0000, 0x1FFF].all fun a => claiming.ppuTryRead a == some 0 && (claiming.ppuWrite a 7).isSome &&
      decide (a.toNat < 0x2000)) = true ∧
    ((claiming.ppuTryRead 0x2000).isNone && (claiming.ppuWrite 0x2000 7).isNone) = true ∧
    (∀ a, blank.cart.ppuTryRead a = none ∧ blank.cart.ppuWrite a 7 = none) :=
  ⟨by decide, by decide, fun _ => ⟨rfl, rfl⟩⟩

/-- Work RAM at its last address, at a mirror of the address written and at one of another byte. -/
theorem witness_WorkRamMirrors :
    lowStack.ram.wf Config.ramSize = true ∧ (0x1FFF#16).toNat < 0x2000 ∧ (0x07FF#16).toNat < 0x2000 ∧
    (0x0000#16).toNat < 0x2000 ∧ lowStack.cart.cpuWrite 0x1FFF 0x77 = none ∧
    lowStack.cart.cpuTryRead 0x07FF = none ∧ lowStack.cart.cpuTryRead 0x0000 = none := by decide

/-- A transfer about to start on an even and on an odd `cyc`. -/
theorem witness_DmaTransferLength :
    ∀ cyc ∈ [10, 13],
      (dmaMachine cyc).dma.transfer = true ∧ (dmaMachine cyc).dma.dummy = true ∧ (dmaMachine cyc).dma.addr = 0 := by
  decide

/-- The last page below 0x2000. -/
theorem witness_DmaCopiesPage :
    let s := memWrite (dmaMachine 13) 0x4014 0x1F
    s.dma.transfer = true ∧ s.dma.dummy = true ∧ s.dma.addr = 0 ∧ s.dma.page.toNat < 0x20 ∧
    s.ppu.oam.wf Config.oamSize = true ∧ ∀ k : Byte, s.cart.cpuTryRead (s.dma.page ++ k) = none :=
  ⟨by decide, by decide, by decide, by decide, by decide, fun _ => (empty_declines rfl _).1⟩

theorem witness_DmaTriggerAndControllers :
    lowStack.cart.cpuWrite 0x4014 0xFF = none ∧ lowStack.cart.cpuWrite 0x4016 0xFF = none ∧
    lowStack.cart.cpuTryRead 0x4016 = none ∧ lowStack.cart.cpuTryRead 0x4017 = none := by decide

/-- Ticks of each kind: no CPU-cadence tick, a CPU tick, a DMA step. -/
theorem witness_MasterTickOrder :
    (∃ t, step { blank with master := 1 } = .next t) ∧ (∃ t, step blank = .next t) ∧
    ∃ t, step (dmaMachine 13) = .next t := ⟨⟨_, rfl⟩, ⟨_, rfl⟩, ⟨_, rfl⟩⟩

/-- The first and the last address of each port, and a first and a second write. -/
theorem witness_ports :
    (∀ k < 8, 0x2000 ≤ (BitVec.ofNat 16 (0x2000 + k)).toNat ∧ (BitVec.ofNat 16 (0x3FF8 + k)).toNat < 0x4000 ∧
      (BitVec.ofNat 16 (0x2000 + k)).toNat % 8 = k ∧ (BitVec.ofNat 16 (0x3FF8 + k)).toNat % 8 = k) ∧
    (∀ a : Word, declines blank a) ∧
    blank.ppu.addrLatch = false ∧ (memWrite blank 0x2005 0).ppu.addrLatch = true :=
  ⟨by decide, fun a => empty_declines rfl a, by decide, by decide⟩

/-- The first PPU address, the last nametable address, the first and the last palette address. -/
theorem witness_PpuMemoryReadsBack :
    ([0x2000, 0x3EFF, 0x3F00, 0x3FFF].all fun a : PpuAddr => decide (0x2000 ≤ a.toNat)) = true ∧
    (∀ a, blank.cart.ppuWrite a 0xFF = none ∧ blank.cart.ppuTryRead a = none) ∧
    blank.ppu.nametable.wf Config.nametableSize = true ∧ blank.ppu.palette.wf Config.paletteSize = true :=
  ⟨by decide, fun _ => ⟨rfl, rfl⟩, by decide, by decide⟩

/-- The three clauses: the dot, the dot after a status read, another dot. -/
theorem witness_VblankAndNmiRequest :
    (∃ s : State, s.ppu.scanline = 241 ∧ s.ppu.cycle = 1 ∧ s.ppu.statusReadThisTick = false) ∧
    (∃ s : State, s.ppu.scanline = 241 ∧ s.ppu.cycle = 1 ∧ s.ppu.statusReadThisTick = true) ∧
    ∃ s : State, ¬ (s.ppu.scanline = 241 ∧ s.ppu.cycle = 1) :=
  ⟨⟨{ blank with ppu := { blank.ppu with scanline := 241, cycle := 1 } }, rfl, rfl, rfl⟩,
    ⟨{ blank with ppu := { blank.ppu with scanline := 241, cycle := 1, statusReadThisTick := true } },
      rfl, rfl, rfl⟩,
    ⟨blank, by decide⟩⟩

theorem witness_FrameLength :
    let s : State := { blank with ppu := { blank.ppu with scanline := -1, oddFrame := true, mask := 0x10 } }
    s.ppu.scanline = -1 ∧ s.ppu.cycle = 0 ∧ (s.ppu.oddFrame && (s.ppu.mask.getLsbD 3 || s.ppu.mask.getLsbD 4)) = true := by
  decide

/-- A machine at a dot, with both layers enabled. -/
def atDot (line : Int) (cycle : Nat) (odd : Bool) : State :=
  { blank with ppu := { blank.ppu with scanline := line, cycle := cycle, oddFrame := odd, mask := 0x1E } }

/-- Coarse Y 29 and 30 on either side of the boundary; the first and the last cycle of each of a tick's clauses. -/
theorem witness_ScrollArithmetic :
    ((coarseY 0x73A6#15).toNat = 29 ∧ (coarseY 0x73C6#15).toNat = 30) ∧
    (renderable (atDot (-1) 280 false).ppu && renderable (atDot 239 8 false).ppu &&
      !renderable (atDot 240 8 false).ppu && layersOn (atDot 239 8 false).ppu) = true ∧
    [8, 256, 257, 280, 304, 328, 336].map (fun c => dot (atDot (-1) c false).ppu) = [8, 256, 257, 280, 304, 328, 336] ∧
    dot (atDot 0 0 true).ppu = 1 ∧ dot (atDot 0 0 false).ppu = 0 := by decide

/-- The dots of the sprite clauses: the clear, the first and the last shift, the evaluation, the fetch, a dot of
none; a machine with as many sprites as there are lanes. -/
theorem witness_SpriteEvaluationSelects :
    (let full := List.replicate 8 (Sprite.mk 0 0 0 0)
     let s : State := { blank with ppu := { blank.ppu with sprites := full } }
     s.ppu.sprites.length ≤ 8 ∧ s.ppu.lanes.length = 8 ∧ s.ppu.sprites[7]? = some ⟨0, 0, 0, 0⟩ ∧
      s.ppu.lanes[7]? = some ⟨0, 0⟩) ∧
    ((atDot (-1) 1 false).ppu.scanline = -1 ∧ dot (atDot (-1) 1 false).ppu = 1) ∧
    (visibleLine (atDot 0 257 false).ppu && visibleLine (atDot 239 340 false).ppu &&
      !visibleLine (atDot (-1) 257 false).ppu && (atDot (-1) 2 false).ppu.mask.getLsbD 4) = true ∧
    (dot (atDot (-1) 2 false).ppu = 2 ∧ dot (atDot 0 257 false).ppu = 257 ∧ dot (atDot 239 340 false).ppu = 340) := by
  decide

/-- The first and the last dot of a pixel and the dots around them; the first and the last cycles of the pipeline's
ranges, and a cycle of each phase that loads a latch. -/
theorem witness_PixelOutput :
    (visibleLine (atDot 0 1 false).ppu && visibleLine (atDot 239 256 false).ppu &&
      !visibleLine (atDot (-1) 1 false).ppu && !visibleLine (atDot 240 1 false).ppu) = true ∧
    ([2, 257, 321, 337].all fun c => inPipe (atDot 0 c false)) = true ∧
    ([0, 1, 258, 320, 338].all fun c => !inPipe (atDot 0 c false)) = true ∧
    ([(9, 1), (257, 1), (337, 1), (3, 3), (5, 5), (7, 7)].all fun c => inPhase (atDot (-1) c.1 false) c.2) = true ∧
    layersOn blank.ppu = false := by decide

/-- A pixel of each combination: the backdrop, the background, a sprite in front of it and one behind it, with sprite
zero hit in the last two. -/
theorem witness_layers :
    let p : Ppu := { (atDot 0 9 false).ppu with bgPatLo := 0x8000, bgAttrHi := 0x8000 }
    let shown (attr lo : Byte) : Ppu := { p with sprites := [⟨0, 0, attr, 0⟩], lanes := [⟨lo, lo⟩], sprZeroSelected := true }
    shownIndex (atDot 0 9 false).ppu 9 = 0 ∧ shownIndex p 9 = 9 ∧ shownIndex (shown 0x03 0x80) 9 = 31 ∧
    shownIndex (shown 0x23 0x80) 9 = 9 ∧ spriteZeroHit (shown 0x23 0x80) 9 = true ∧
    spriteZeroHit (shown 0x03 0x40) 9 = false := by decide

theorem witness_DisabledChannelsStaySilent : disabledAreZero Apu.powerOn := by
  unfold disabledAreZero
  decide

theorem witness_EnvelopeDecays :
    (Envelope.mk true 0 0 0).start = true ∧ 0 ≤ 15 ∧ 15 ≤ 15 := by decide

theorem witness_FrameInterruptTiming :
    Apu.powerOn.fcPos = 0 ∧ Apu.powerOn.frameIrq = false ∧ Apu.powerOn.fcMode = false ∧
    Apu.powerOn.fcIrqInhibit = false ∧ ({ Apu.powerOn with fcMode := true } : Apu).fcMode = true := by decide

/-- The first and the last register on either side of the two addresses that are no APU registers. -/
theorem witness_FrameCounterPorts :
    ([0x00, 0x13, 0x15, 0x17].all fun r => decide (r ≤ 0x17 ∧ r ≠ 0x14 ∧ r ≠ 0x16)) = true ∧
    (∀ (r : Nat) (v : Byte), lowStack.cart.cpuWrite (BitVec.ofNat 16 (0x4000 + r)) v = none) ∧
    lowStack.cart.cpuTryRead 0x4015 = none :=
  ⟨by decide, fun _ v => (empty_declines rfl _).2 v, by decide⟩

/-- `PC` after power-on: no byte of the vector claimed; only the high byte, by a board that begins there; both. -/
theorem witness_PowerOnState :
    let started (base : Nat) : State :=
      let b : Board := { Board.empty with cpu := memOf [(0xFFFC, 0x34), (0xFFFD, 0x12)], cpuBase := base }
      boot Config.standard (.board b) .empty .empty .empty .empty
    (started 0x10000).cpu.pc = 0x0000 ∧ (started 0xFFFD).cpu.pc = 0x1200 ∧ (started 0xFFFC).cpu.pc = 0x1234 := by decide

/-- The machine with `NOP` placed where the next step fetches it. -/
def placed : State := State.reset.withFetchWord 8 0xEA

theorem witness_StepKeepsInvariant : placed.Inv ∧ ∃ t, step placed = .next t :=
  ⟨by constructor <;> decide, _, rfl⟩

theorem witness_ReachableStatesMeetInvariant :
    Reachable (hostInput .reset (boot Config.standard (.board Board.empty) .empty .empty .empty .empty)) :=
  .input .reset (.boot _ _ _ _ _ _ (by decide) (by decide) (by decide) (by decide) (by decide))

end Witnesses

end Sys2Proof.Tests
end

section
/-! PROOFS. Power-on: what a bus read above the console's ports is, what the reset procedure does in terms of the two
vector reads, and the state that power-on leaves (spec/10_state.md section 9, spec/70_reset_and_hazards.md section 1). -/

namespace Sys2Proof.Machine

/-! ### Reads above the console's ports, where only the cartridge answers (rules R73 to R75) -/

/-- The byte that the cartridge drives at a CPU address; a declined address reads 0 (rule R73). -/
def Cart.cpuByte (c : Cart) (a : Word) : Byte := (c.cpuTryRead a).getD 0

/-- The cartridge after a CPU read: its own side effects if it claimed the read (DEDUCED, log entry 6). -/
def Cart.afterCpuRead (c : Cart) (a : Word) : Cart := if (c.cpuTryRead a).isSome then c.readEffects a else c

/-- Above 0x4017 the console bus claims no read. -/
theorem consoleTryRead_above_ports (s : State) {a : Word} (ha : 0x4017 < a.toNat) : consoleTryRead s a = none := by
  have h1 : ¬ a.toNat < 0x2000 := by omega
  have h2 : ¬ a.toNat < 0x4000 := by omega
  have h5 : a.toNat ≠ 0x4015 := by omega
  have h6 : a.toNat ≠ 0x4016 := by omega
  have h7 : a.toNat ≠ 0x4017 := by omega
  simp only [consoleTryRead, h1, h2, h5, h6, h7, if_false]

theorem peek_above_ports (s : State) {a : Word} (ha : 0x4017 < a.toNat) : peek s a = s.cart.cpuByte a := by
  unfold peek tryRead Cart.cpuByte
  cases s.cart.cpuTryRead a with
  | some v => rfl
  | none => rw [consoleTryRead_above_ports s ha]

theorem readEffects_above_ports (s : State) {a : Word} (ha : 0x4017 < a.toNat) :
    readEffects s a = { s with cart := s.cart.afterCpuRead a } := by
  unfold Cart.afterCpuRead
  rcases readEffects_cases s a with ⟨v, hv, h⟩ | ⟨hn, ⟨-, h4, -⟩ | ⟨h5, -⟩ | ⟨h6, -⟩ | ⟨h7, -⟩ | ⟨-, h⟩⟩
  · simp [h, hv]
  · omega
  · omega
  · omega
  · omega
  · simp [h, hn]

/-! ### The reset procedure -/

/-- The reset procedure is the two vector reads, low byte first, then the CPU and DMA fields that it sets (rule R502). -/
theorem resetVectorOnly_eq (s : State) :
    resetVectorOnly s =
      { readEffects (readEffects s 0xFFFC) 0xFFFD with
        cpu :=
          { s.cpu with
            pc := BitVec.ofNat 16 ((peek (readEffects s 0xFFFC) 0xFFFD).toNat * 256 + (peek s 0xFFFC).toNat)
            waitCycles := s.cfg.resetWait
            nmiLatch := false
            irqLatch := false }
        dma := { s.dma with transfer := false, dummy := true } } := by
  have hframe := (readEffects_frame s 0xFFFC).trans (readEffects_frame (readEffects s 0xFFFC) 0xFFFD)
  have hnext : (0xFFFC : Word) + 1 = 0xFFFD := by decide
  simp only [resetVectorOnly, Config.resetVector, memRead16_eq, hilo_eq, hnext, readEffects_cpu, hframe.cfg, hframe.dma]

/-- The vector lies above the console's ports, so of the reset procedure's reads only the cartridge sees anything. -/
theorem resetVectorOnly_eq_cart (s : State) :
    resetVectorOnly s =
      { s with
        cpu :=
          { s.cpu with
            pc := BitVec.ofNat 16
              (((s.cart.afterCpuRead 0xFFFC).cpuByte 0xFFFD).toNat * 256 + (s.cart.cpuByte 0xFFFC).toNat)
            waitCycles := s.cfg.resetWait
            nmiLatch := false
            irqLatch := false }
        dma := { s.dma with transfer := false, dummy := true }
        cart := (s.cart.afterCpuRead 0xFFFC).afterCpuRead 0xFFFD } := by
  have hlo : 0x4017 < (0xFFFC : Word).toNat := by decide
  have hhi : 0x4017 < (0xFFFD : Word).toNat := by decide
  simp only [resetVectorOnly_eq, readEffects_above_ports _ hlo, readEffects_above_ports _ hhi,
    peek_above_ports _ hlo, peek_above_ports _ hhi]

/-- Power-on is the power-on values with the vector in `PC`, the countdown, and the cartridge after the two reads (rules
R65, R500, R503). -/
theorem boot_eq (cfg : Config) (cart : Cart) (ram oam nametable palette : Memory) :
    boot cfg cart ram oam nametable palette =
      { State.powerOn cfg cart ram oam nametable palette with
        cpu :=
          { Cpu.powerOn with
            pc := BitVec.ofNat 16
              (((cart.afterCpuRead 0xFFFC).cpuByte 0xFFFD).toNat * 256 + (cart.cpuByte 0xFFFC).toNat)
            waitCycles := cfg.resetWait }
        cart := (cart.afterCpuRead 0xFFFC).afterCpuRead 0xFFFD } :=
  resetVectorOnly_eq_cart _

/-- The status byte is made of the flags, which keep their power-on values: `I` and the constant bit 5 (rule R65). -/
theorem boot_pbyte (cfg : Config) (cart : Cart) (ram oam nametable palette : Memory) :
    (boot cfg cart ram oam nametable palette).cpu.pbyte (boot cfg cart ram oam nametable palette).cpu.b = 0x24 := by
  rw [boot_eq]
  change Cpu.powerOn.pbyte Cpu.powerOn.b = 0x24
  decide

/-- Settles O57: `boot_eq` with the power-on values written out and the cartridge's byte as the statement reads it. -/
theorem powerOnState : Obligations.PowerOnState := by
  unfold Obligations.PowerOnState
  intro cfg cart ram oam nametable palette value after lo hi silent still pulse s
  have hvalue : value = Cart.cpuByte := by
    funext c a
    simp only [value, Cart.cpuByte]
    cases c.cpuTryRead a <;> rfl
  refine ⟨?_, boot_pbyte cfg cart ram oam nametable palette⟩
  simp only [s, boot_eq, lo, hi, hvalue]
  rfl

end Sys2Proof.Machine
end

section
/-! PROOFS. Memory: effective addresses on integers, the CPU bus with its work RAM, and the PPU bus
(spec/20_memory.md sections 2 and 4, spec/30_encoding.md section 3, spec/62_ppu.md section 2). -/

namespace Sys2Proof.Machine

open Sys2Proof.Claims

/-! ### Effective addresses on integers (rules R122 to R130) -/

/-- Adding a register to a zero-page operand stays in the zero page (rules R124, R125, R128). -/
theorem zext16_add (d idx : Byte) : zext16 (d + idx) = BitVec.ofNat 16 ((d.toNat + idx.toNat) % 256) :=
  zext16_eq (BitVec.toNat_add d idx)

/-- Indexing wraps modulo 65536; a wrap is a page crossing too (rules R126, R130). -/
theorem indexed_eq (base : Word) (idx : Byte) (s : State) :
    indexed base idx s =
      ⟨BitVec.ofNat 16 (base.toNat + idx.toNat),
        decide ((base.toNat + idx.toNat) / 256 ≠ base.toNat / 256), s⟩ := by
  have hb := base.isLt
  have hi := idx.isLt
  have hea : base + zext16 idx = BitVec.ofNat 16 (base.toNat + idx.toNat) := by
    apply BitVec.eq_of_toNat_eq
    simp [zext16]
  have hpage : (base.toNat + idx.toNat) % 65536 / 256 = base.toNat / 256 ↔
      (base.toNat + idx.toNat) / 256 = base.toNat / 256 := by omega
  simp [indexed, page_bne, hea, hpage]

/-- Both bytes of a zero-page pointer lie in the zero page, the low byte first (rules R128, R129). -/
theorem zeroPagePointer_eq (s : State) {z : Byte} {n : Nat} (hz : z.toNat = n % 256) :
    zeroPagePointer s z =
      (BitVec.ofNat 16
          ((peek (readEffects s (BitVec.ofNat 16 (n % 256))) (BitVec.ofNat 16 ((n + 1) % 256))).toNat * 256 +
            (peek s (BitVec.ofNat 16 (n % 256))).toNat),
        readEffects (readEffects s (BitVec.ofNat 16 (n % 256))) (BitVec.ofNat 16 ((n + 1) % 256))) := by
  have hnext : (z + 1).toNat = (n + 1) % 256 := by
    rw [BitVec.toNat_add, hz]
    simp
  simp only [zeroPagePointer, memRead_fst, memRead_snd, hilo_eq, zext16_eq hz, zext16_eq hnext]

/-- An indirect indexed operand indexes the pointer by the `Y` that its reads leave alone (rule R129). -/
theorem resolve_izy (d : Byte) (s : State) :
    resolve (.izy d) s = indexed (zeroPagePointer s d).1 s.cpu.y (zeroPagePointer s d).2 := by
  simp only [resolve, zeroPagePointer_cpu]

/-- Settles O24: each mode by its integer form, `zext16_add`, `indexed_eq` or `zeroPagePointer_eq`. -/
theorem effectiveAddresses : Obligations.EffectiveAddresses := by
  unfold Obligations.EffectiveAddresses
  intro d w s x y zero plus
  have hd : d.toNat = d.toNat % 256 := (Nat.mod_eq_of_lt d.isLt).symm
  refine ⟨?imm, ?zp, ?zpx, ?zpy, rfl, indexed_eq w s.cpu.x s, indexed_eq w s.cpu.y s, ?izx, ?izy, ?data⟩
  case imm =>
    have hpc : s.cpu.pc - 1 = BitVec.ofNat 16 (s.cpu.pc.toNat + 65535) := by
      apply BitVec.eq_of_toNat_eq
      rw [BitVec.toNat_sub, BitVec.toNat_ofNat, Nat.add_comm]
      rfl
    rw [resolve, hpc]
  case zp => rw [resolve, zext16_eq hd]
  case zpx => rw [resolve, zext16_add]
  case zpy => rw [resolve, zext16_add]
  case izx =>
    intro p s1
    rw [resolve, zeroPagePointer_eq s (BitVec.toNat_add d s.cpu.x)]
  case izy =>
    intro s1
    have hlo := (peek s (zero d.toNat)).isLt
    have hhi := (peek s1 (zero (d.toNat + 1))).isLt
    rw [resolve_izy, zeroPagePointer_eq s hd, indexed_eq, BitVec.toNat_ofNat, Nat.mod_eq_of_lt (by omega)]
  case data =>
    intro r
    refine ⟨rfl, fun o ho => ?_⟩
    cases o with
    | imm d' => simp at ho
    | _ => rfl

/-! ### The CPU bus (rules R71 to R78) -/

/-- A CPU address that the console bus does not claim for reads: a write-only port or register, or nothing at all
(rules R73, R77, R78). -/
def Unreadable (a : Word) : Prop :=
  (0x4000 ≤ a.toNat ∧ a.toNat ≤ 0x4014) ∨ 0x4018 ≤ a.toNat ∨
    (0x2000 ≤ a.toNat ∧ a.toNat < 0x4000 ∧ a.toNat % 8 ∉ [2, 4, 7])

/-- The readable ports are 2, 4 and 7 (rules R77, R384, R388, R389). -/
theorem portTryRead_eq_none (s : State) {port : Nat} (h : port ∉ [2, 4, 7]) : portTryRead s port = none := by
  unfold portTryRead
  split
  · simp at h
  · simp at h
  · simp at h
  · rfl

theorem consoleTryRead_unreadable (s : State) {a : Word} (ha : Unreadable a) : consoleTryRead s a = none := by
  unfold consoleTryRead
  rcases ha with ha | ha | ⟨h2, h4, hport⟩
  · rw [if_neg (by omega), if_neg (by omega), if_neg (by omega), if_neg (by omega), if_neg (by omega)]
  · rw [if_neg (by omega), if_neg (by omega), if_neg (by omega), if_neg (by omega), if_neg (by omega)]
  · rw [if_neg (by omega), if_pos h4, portTryRead_eq_none s hport]

/-- A declined read of such an address has no side effect (rules R73, R83). -/
theorem readEffects_unreadable {s : State} {a : Word} (hdeclined : s.cart.cpuTryRead a = none)
    (ha : Unreadable a) : readEffects s a = s := by
  unfold Unreadable at ha
  simp only [List.mem_cons, List.not_mem_nil, or_false, not_or] at ha
  rcases readEffects_cases s a with ⟨v, hclaimed, -⟩ | ⟨-, ⟨h2, h4, hport, -⟩ | ⟨h, -⟩ | ⟨h, -⟩ | ⟨h, -⟩ | ⟨-, h⟩⟩
  · rw [hdeclined] at hclaimed
    cases hclaimed
  · omega
  · omega
  · omega
  · omega
  · exact h

/-- Above the ports and registers the console bus ignores a write (rule R72). -/
theorem consoleWrite_unclaimed (s : State) {a : Word} (ha : 0x4018 ≤ a.toNat) (v : Byte) :
    consoleWrite s a v = s := by
  unfold consoleWrite
  rw [if_neg (by omega), if_neg (by omega), if_neg (by omega), if_neg (by omega), if_neg (by omega)]

/-- A read the cartridge claims is the cartridge's alone (rule R74). -/
theorem memRead_claimed {s : State} {a : Word} {v : Byte} (h : s.cart.cpuTryRead a = some v) :
    memRead s a = (v, { s with cart := s.cart.readEffects a }) := by
  simp [memRead, peek, tryRead, readEffects, h]

/-- A read the cartridge declines is the console bus's alone (rules R74, R75). -/
theorem memRead_declined {s : State} {a : Word} (h : s.cart.cpuTryRead a = none) :
    memRead s a = ((consoleTryRead s a).getD 0, consoleReadEffects s a) := by
  simp [memRead, peek, tryRead, readEffects, h]

/-- A write the cartridge claims is the cartridge's alone (rule R74). -/
theorem memWrite_claimed {s : State} {a : Word} {v : Byte} {c : Cart} (h : s.cart.cpuWrite a v = some c) :
    memWrite s a v = { s with cart := c } := by
  simp only [memWrite, h]

/-- A write the cartridge declines is the console bus's alone (rules R74, R75). -/
theorem memWrite_declined {s : State} {a : Word} {v : Byte} (h : s.cart.cpuWrite a v = none) :
    memWrite s a v = consoleWrite s a v := by
  simp only [memWrite, h]

/-- Settles O35: the claimed and declined accesses, and the addresses the console bus does not claim. -/
theorem busReadsAndUnclaimedAddresses : Obligations.BusReadsAndUnclaimedAddresses := by
  unfold Obligations.BusReadsAndUnclaimedAddresses
  intro s a
  refine ⟨?value, ?unreadable, fun hdeclined ha v => ?ignored, fun v h => memRead_claimed h,
    fun v c h => memWrite_claimed h⟩
  case value =>
    rw [memRead, peek]
    cases tryRead s a <;> rfl
  case unreadable =>
    intro hdeclined ha
    rw [memRead, readEffects_unreadable hdeclined ha, peek, tryRead, hdeclined]
    simp only [consoleTryRead_unreadable s ha, Option.getD_none]
  case ignored => rw [memWrite_declined (hdeclined v), consoleWrite_unclaimed s ha]

/-! ### Work RAM (rule R76) -/

/-- A write below 0x2000 that the cartridge declines changes one byte of work RAM. -/
theorem memWrite_workRam {s : State} {a : Word} {v : Byte} (hdeclined : s.cart.cpuWrite a v = none)
    (ha : a.toNat < 0x2000) : memWrite s a v = { s with ram := s.ram.write (ramIndex a) v } := by
  rw [memWrite_declined hdeclined, consoleWrite, if_pos ha]

/-- A read below 0x2000 that the cartridge declines gives a byte of work RAM and changes nothing. -/
theorem memRead_workRam {s : State} {a : Word} (hdeclined : s.cart.cpuTryRead a = none) (ha : a.toNat < 0x2000) :
    memRead s a = (s.ram.read (ramIndex a), s) := by
  rw [memRead_declined hdeclined, consoleTryRead, consoleReadEffects, if_pos ha, if_pos ha, Option.getD_some]

/-- Settles O37: a read after a write of work RAM, whose index is the address modulo 2048. -/
theorem workRamMirrors : Obligations.WorkRamMirrors := by
  unfold Obligations.WorkRamMirrors
  intro s a b v hram ha hb hwrite hread
  have hpeek : peek s b = s.ram.read (ramIndex b) := congrArg Prod.fst (memRead_workRam hread hb)
  rw [memWrite_workRam hwrite ha]
  refine ⟨rfl, ?_⟩
  rw [memRead_workRam (s := { s with ram := s.ram.write (ramIndex a) v }) hread hb, hpeek, Memory.read_write hram]
  rfl

/-! ### The PPU bus (rules R390 to R394) -/

/-- The mirroring table of rule R392 on integers. -/
theorem physTable_toNat (m : Mirroring) (single t : BitVec 2) :
    (physTable m single t).toNat = physical m single.toNat t.toNat := by
  cases m with
  | vertical => exact (by decide : ∀ t : BitVec 2, (t &&& 1).toNat = [0, 1, 0, 1].getD t.toNat 0) t
  | horizontal => exact (by decide : ∀ t : BitVec 2, (t >>> 1).toNat = [0, 0, 1, 1].getD t.toNat 0) t
  | singleScreen => rfl
  | fourScreen => rfl

/-- The byte of nametable or palette memory behind a PPU address, by the model's own indices. -/
theorem ppuCell_eq (m : Mirroring) (single : BitVec 2) (a : PpuAddr) :
    ppuCell m single.toNat a =
      if a.toNat < 0x3F00 then (false, nametableIndex m single a) else (true, paletteIndex a) := by
  unfold ppuCell
  split
  · have htable : (a.extractLsb' 10 2).toNat = a.toNat % 0x1000 / 0x400 := by
      rw [BitVec.extractLsb'_toNat, Nat.shiftRight_eq_div_pow]
      omega
    have hoffset : (a.extractLsb' 0 10).toNat = a.toNat % 0x400 := by
      rw [BitVec.extractLsb'_toNat, Nat.shiftRight_zero]
    rw [nametableIndex, physTable_toNat, htable, hoffset]
  · have hmirror : (a.toNat % 32 % 4 = 0 ∧ 16 ≤ a.toNat % 32) ↔
        (a.toNat % 32 = 0x10 ∨ a.toNat % 32 = 0x14 ∨ a.toNat % 32 = 0x18 ∨ a.toNat % 32 = 0x1C) := by omega
    simp only [paletteIndex, hmirror]

/-- The byte of a cell of PPU memory: palette RAM if `true`, nametable RAM if not. -/
def Ppu.cellByte (p : Ppu) : Bool × Nat → Byte
  | (false, i) => p.nametable.read i
  | (true, i) => p.palette.read i

/-- The PPU with one cell of its memory changed. -/
def Ppu.writeCell (p : Ppu) (v : Byte) : Bool × Nat → Ppu
  | (false, i) => { p with nametable := p.nametable.write i v }
  | (true, i) => { p with palette := p.palette.write i v }

/-- A cell reads as written, every other cell as before. -/
theorem Ppu.cellByte_writeCell {p : Ppu} (hn : p.nametable.wf Config.nametableSize = true)
    (hp : p.palette.wf Config.paletteSize = true) (v : Byte) (x y : Bool × Nat) :
    (p.writeCell v x).cellByte y = if y = x then v else p.cellByte y := by
  obtain ⟨k, i⟩ := x
  obtain ⟨l, j⟩ := y
  cases k <;> cases l
  · simp only [writeCell, cellByte, Memory.read_write hn, Prod.mk.injEq, true_and]
  · rfl
  · rfl
  · simp only [writeCell, cellByte, Memory.read_write hp, Prod.mk.injEq, true_and]

/-- The cell of PPU memory that an address names on this machine. -/
def State.ppuCellOf (s : State) (a : PpuAddr) : Bool × Nat :=
  ppuCell s.cart.mirroring s.cfg.singleScreenTable.toNat a

/-- A read that the cartridge claims gives the cartridge's byte (rule R390). -/
theorem ppuRead_claimed {s : State} {a : PpuAddr} {x : Byte} (h : s.cart.ppuTryRead a = some x) :
    ppuRead s a = x := by
  simp only [ppuRead, h]

/-- A pattern-table read that the cartridge declines gives 0 (rule R391). -/
theorem ppuRead_pattern {s : State} {a : PpuAddr} (hdeclined : s.cart.ppuTryRead a = none)
    (ha : a.toNat < 0x2000) : ppuRead s a = 0 := by
  simp only [ppuRead, hdeclined, if_pos ha]

/-- From 0x2000 up a read that the cartridge declines gives the byte of the cell (rules R392, R393). -/
theorem ppuRead_cell {s : State} {a : PpuAddr} (hdeclined : s.cart.ppuTryRead a = none) (ha : 0x2000 ≤ a.toNat) :
    ppuRead s a = s.ppu.cellByte (s.ppuCellOf a) := by
  rw [State.ppuCellOf, ppuCell_eq]
  simp only [ppuRead, hdeclined, if_neg (Nat.not_lt.2 ha)]
  split <;> rfl

/-- A write that the cartridge claims reaches the cartridge only (rule R390, log entry 6). -/
theorem ppuWrite_claimed {s : State} {a : PpuAddr} {v : Byte} {c : Cart} (h : s.cart.ppuWrite a v = some c) :
    ppuWrite s a v = { s with cart := c } := by
  simp only [ppuWrite, h]

/-- A pattern-table write that the cartridge declines is ignored (rule R391). -/
theorem ppuWrite_pattern {s : State} {a : PpuAddr} {v : Byte} (hdeclined : s.cart.ppuWrite a v = none)
    (ha : a.toNat < 0x2000) : ppuWrite s a v = s := by
  simp only [ppuWrite, hdeclined, if_pos ha]

/-- From 0x2000 up a write that the cartridge declines changes the cell (rules R392, R393). -/
theorem ppuWrite_cell {s : State} {a : PpuAddr} {v : Byte} (hdeclined : s.cart.ppuWrite a v = none)
    (ha : 0x2000 ≤ a.toNat) : ppuWrite s a v = { s with ppu := s.ppu.writeCell v (s.ppuCellOf a) } := by
  rw [State.ppuCellOf, ppuCell_eq]
  simp only [ppuWrite, hdeclined, if_neg (Nat.not_lt.2 ha)]
  split <;> rfl

/-- Settles O45: claimed and pattern-table accesses by their own lemmas, the rest as one cell read and written. -/
theorem ppuMemoryReadsBack : Obligations.PpuMemoryReadsBack := by
  unfold Obligations.PpuMemoryReadsBack
  intro s a b v t
  refine ⟨fun x h => ppuRead_claimed h, fun c h => ppuWrite_claimed h, fun ha h => ppuRead_pattern h ha,
    fun ha h => ppuWrite_pattern h ha, fun hdeclined => ?frame, ?readBack⟩
  case frame =>
    rcases ppuWrite_cases s a v with ⟨c, hclaimed, -⟩ | ⟨-, ⟨-, h⟩ | ⟨-, -, h⟩ | ⟨-, h⟩⟩
    · rw [hdeclined] at hclaimed
      cases hclaimed
    · simp only [t, h]
    · simp only [t, h]
    · simp only [t, h]
  case readBack =>
    intro ha hb hn hp hwrite hread cellOf
    have hread' : ppuRead { s with ppu := s.ppu.writeCell v (s.ppuCellOf a) } b = _ := ppuRead_cell hread hb
    simp only [t]
    rw [ppuWrite_cell hwrite ha, hread', ppuRead_cell hread hb]
    exact Ppu.cellByte_writeCell hn hp v _ _

end Sys2Proof.Machine
end

section
/-! PROOFS. What the forms that store one byte leave alone on a machine with a board (spec/20_memory.md sections 2 and
4, spec/40_load_store_transfer.md section 2, spec/42_rmw_shift.md, spec/44_unofficial.md). -/

namespace Sys2Proof.Machine

open Sys2Proof.Claims

/-! ### The memory of a machine with a board -/

/-- Two boards show the CPU the same memory: the same addresses claimed, the same bytes there. -/
structure SameCpuSpace (b b' : Board) : Prop where
  base : b'.cpuBase = b.cpuBase
  cpu : b'.cpu = b.cpu

theorem SameCpuSpace.refl (b : Board) : SameCpuSpace b b := ⟨rfl, rfl⟩

/-- A memory address reads alike where the component that answers it, the board or work RAM, reads alike. -/
theorem peek_memory_congr {s t : State} {b b' : Board} (hs : s.cart = .board b) (ht : t.cart = .board b')
    (hbase : b'.cpuBase = b.cpuBase) {a : Word} (ha : isMemory b a)
    (hboard : b.claimsCpu a = true → b'.cpu.read a.toNat = b.cpu.read a.toNat)
    (hram : ¬ b.claimsCpu a = true → t.ram.read (ramIndex a) = s.ram.read (ramIndex a)) : peek t a = peek s a := by
  have hclaims : b'.claimsCpu a = b.claimsCpu a := by rw [Board.claimsCpu, hbase, Board.claimsCpu]
  rw [peek_board hs ha, peek_board ht (by rwa [hclaims]), hclaims]
  split
  case isTrue h => exact hboard h
  case isFalse h => exact hram h

/-- All of memory is kept where work RAM and the board's CPU space are the same. -/
theorem SameCpuSpace.memoryKept {s t : State} {b b' : Board} (h : SameCpuSpace b b') (hs : s.cart = .board b)
    (ht : t.cart = .board b') (hram : t.ram = s.ram) (changed : Word → Prop) : memoryKept b s t changed :=
  fun _ ha _ => peek_memory_congr hs ht h.base ha (fun _ => by rw [h.cpu]) (fun _ => by rw [hram])

/-! ### What a write leaves of memory (rules R72, R74, R76) -/

/-- A PPU bus write changes neither work RAM nor what the board shows the CPU. -/
theorem ppuWrite_board {s : State} {b : Board} (hs : s.cart = .board b) (a : PpuAddr) (v : Byte) :
    (ppuWrite s a v).ram = s.ram ∧ ∃ b', (ppuWrite s a v).cart = .board b' ∧ SameCpuSpace b b' := by
  rcases ppuWrite_cases s a v with ⟨c, hclaimed, h⟩ | ⟨-, ⟨-, h⟩ | ⟨-, -, h⟩ | ⟨-, h⟩⟩ <;> rw [h]
  · refine ⟨rfl, ?_⟩
    rw [hs, Cart.ppuWrite] at hclaimed
    split at hclaimed
    · cases hclaimed
      refine ⟨_, rfl, ?_⟩
      split <;> exact ⟨rfl, rfl⟩
    · cases hclaimed
  · exact ⟨rfl, b, hs, .refl b⟩
  · exact ⟨rfl, b, hs, .refl b⟩
  · exact ⟨rfl, b, hs, .refl b⟩

/-- A port write changes neither work RAM nor what the board shows the CPU. -/
theorem portWrite_board {s : State} {b : Board} (hs : s.cart = .board b) (port : Nat) (v : Byte) :
    (portWrite s port v).ram = s.ram ∧ ∃ b', (portWrite s port v).cart = .board b' ∧ SameCpuSpace b b' := by
  unfold portWrite
  split
  case h_7 => exact ppuWrite_board hs (vramBusAddr s.ppu) v
  all_goals exact ⟨rfl, b, hs, .refl b⟩

/-- Outside work RAM a console bus write changes neither work RAM nor what the board shows the CPU. -/
theorem consoleWrite_board {s : State} {b : Board} (hs : s.cart = .board b) {a : Word} (ha : 0x2000 ≤ a.toNat)
    (v : Byte) :
    (consoleWrite s a v).ram = s.ram ∧ ∃ b', (consoleWrite s a v).cart = .board b' ∧ SameCpuSpace b b' := by
  rw [consoleWrite, if_neg (by omega)]
  split
  · exact portWrite_board hs _ v
  · repeat' split
    all_goals exact ⟨rfl, b, hs, .refl b⟩

/-- Two mirrors of one work RAM byte that the board leaves alone name the same byte. -/
theorem sameByte_of_ramIndex {b : Board} {a1 a2 : Word} (hc1 : ¬ b.claimsCpu a1 = true)
    (hc2 : ¬ b.claimsCpu a2 = true) (h1 : a1.toNat < 0x2000) (h2 : a2.toNat < 0x2000)
    (h : ramIndex a1 = ramIndex a2) : sameByte b a1 a2 := by
  rw [sameByte, if_neg (not_or.2 ⟨hc1, hc2⟩)]
  exact ⟨h1, h2, h⟩

/-- A board's write changes at most the byte at its address. -/
theorem Board.cpuWrite_eq {b : Board} (hwf : b.cpu.wf 65536 = true) {ea : Word} (hclaims : b.claimsCpu ea = true)
    (v : Byte) :
    ∃ b', (Cart.board b).cpuWrite ea v = some (.board b') ∧ b'.cpuBase = b.cpuBase ∧
      ∀ a : Word, a ≠ ea → b'.cpu.read a.toNat = b.cpu.read a.toNat := by
  refine ⟨_, by rw [Cart.cpuWrite, if_pos hclaims], ?_⟩
  split
  · exact ⟨rfl, fun a hne => Memory.read_write_other hwf (fun h => hne (BitVec.eq_of_toNat_eq h)) v⟩
  · exact ⟨rfl, fun _ _ => rfl⟩

/-- A write on a machine with a board keeps every memory address but those that name the byte written. -/
theorem memWrite_board_memoryKept {s : State} {b : Board} (hs : s.cart = .board b) (hcart : s.cart.wf = true)
    (hram : s.ram.wf Config.ramSize = true) (ea : Word) (v : Byte) :
    memoryKept b s (memWrite s ea v) (fun a => sameByte b a ea) := by
  by_cases hclaims : b.claimsCpu ea = true
  case pos =>
    have hcpu : b.cpu.wf 65536 = true := by
      rw [hs, Cart.wf, Bool.and_eq_true] at hcart
      exact hcart.1
    obtain ⟨b', hwrite, hbase, hother⟩ := Board.cpuWrite_eq hcpu hclaims v
    rw [memWrite_claimed (by rw [hs, hwrite])]
    intro a ha hnot
    have hne : a ≠ ea := by simpa [sameByte, hclaims] using hnot
    exact peek_memory_congr hs rfl hbase ha (fun _ => hother a hne) (fun _ => rfl)
  have hdeclined : s.cart.cpuWrite ea v = none := by rw [hs, Cart.cpuWrite, if_neg hclaims]
  by_cases hea : ea.toNat < 0x2000
  · rw [memWrite_workRam hdeclined hea]
    intro a ha hnot
    refine peek_memory_congr (t := { s with ram := s.ram.write (ramIndex ea) v }) hs hs rfl ha (fun _ => rfl)
      fun hunclaimed => ?_
    have hindex : ramIndex a ≠ ramIndex ea := fun h =>
      hnot (sameByte_of_ramIndex hunclaimed hclaims (ha.resolve_right hunclaimed) hea h)
    exact Memory.read_write_other hram hindex v
  · rw [memWrite_declined hdeclined]
    obtain ⟨hkept, b', hb', hspace⟩ := consoleWrite_board hs (Nat.not_lt.1 hea) v
    exact hspace.memoryKept hs hb' hkept _

/-- A write below 0x2000 reaches nothing outside the cartridge and work RAM. -/
theorem memWrite_below_ports (s : State) {ea : Word} (hea : ea.toNat < 0x2000) (v : Byte) :
    ∃ c m, memWrite s ea v = { s with cart := c, ram := m } := by
  cases hwrite : s.cart.cpuWrite ea v with
  | some c => exact ⟨c, s.ram, memWrite_claimed hwrite⟩
  | none => exact ⟨s.cart, _, memWrite_workRam hwrite hea⟩

/-! ### The forms that store one byte -/

/-- Resolving leaves a board alone. -/
theorem resolve_board {s : State} {b : Board} (hs : s.cart = .board b) (o : Operand) :
    (resolve o s).st.cart = .board b := by
  cases o with
  | izx d => exact readEffects_board (readEffects_board hs _) _
  | izy d => exact readEffects_board (readEffects_board hs _) _
  | _ => exact hs

/-- `t` follows from `s` by one write at the effective address of `o`, after the operand's reads and at most one read
of the effective address itself, with `S` and `PC` kept. -/
def StoresAt (o : Operand) (s t : State) : Prop :=
  ∃ (u : State) (v : Byte) (c : Cpu),
    (u = (resolve o s).st ∨ u = readEffects (resolve o s).st (resolve o s).ea) ∧
    t = (memWrite u (resolve o s).ea v).withCpu c ∧ c.s = s.cpu.s ∧ c.pc = s.cpu.pc

theorem runWrite_storesAt (base : Nat) (o : Operand) (val : Cpu → Byte) (s : State) :
    StoresAt o s (runWrite base o val s) :=
  ⟨_, _, _, .inl rfl, runWrite_eq base o val s, rfl, rfl⟩

/-- A register function that leaves `S` and `PC` alone. -/
def KeepsStackAndPc (f : Cpu → Cpu) : Prop := ∀ c, (f c).s = c.s ∧ (f c).pc = c.pc

theorem runRmw_storesAt (base : Nat) (o : Operand) {f : Byte → Cpu → Byte × Cpu} {g : Byte → Cpu → Cpu}
    (hf : ∀ m, KeepsStackAndPc fun c => (f m c).2) (hg : ∀ r, KeepsStackAndPc (g r)) (s : State) :
    StoresAt o s (runRmw base o f g s) :=
  ⟨_, _, _, .inr rfl, runRmw_eq base o f g s, (hg _ _).1.trans (hf _ _).1, (hg _ _).2.trans (hf _ _).2⟩

/-- The rows STA, STX, STY and SAX write a register's byte (rules R154 to R156, R263). -/
theorem writingRows_storesAt (d : Byte) (w : Word) (s : State) :
    ∀ r ∈ staRows d w ++ stxRows d w ++ styRows d w ++ saxRows d w,
      ∃ t, exec r.instr s = .next t ∧ StoresAt r.operand s t := by
  simp only [staRows, stxRows, styRows, saxRows, List.forall_mem_append, List.forall_mem_cons, List.not_mem_nil,
    false_imp_iff, implies_true, and_true]
  and_intros
  all_goals exact ⟨_, rfl, runWrite_storesAt _ _ _ s⟩

/-- The rows of the shifts, increments and their unofficial combinations read, modify and write (rules R200, R265). -/
theorem modifyingRows_storesAt (d : Byte) (w : Word) (s : State) :
    ∀ r ∈ aslRows d w ++ lsrRows d w ++ rolRows d w ++ rorRows d w ++ incRows d w ++ decRows d w ++ sloRows d w ++
        rlaRows d w ++ sreRows d w ++ rraRows d w ++ dcpRows d w ++ isbRows d w,
      ∃ t, exec r.instr s = .next t ∧ StoresAt r.operand s t := by
  simp only [aslRows, lsrRows, rolRows, rorRows, incRows, decRows, sloRows, rlaRows, sreRows, rraRows, dcpRows,
    isbRows, fourModes, sevenModes, List.forall_mem_append, List.forall_mem_cons, List.not_mem_nil, false_imp_iff,
    implies_true, and_true]
  and_intros
  all_goals
    refine ⟨_, rfl, runRmw_storesAt _ _ ?_ ?_ s⟩
    · exact fun _ _ => ⟨rfl, rfl⟩
    · exact fun _ _ => ⟨rfl, rfl⟩

/-- Every storing row stores at its operand's effective address. -/
theorem storingRows_storesAt {d : Byte} {w : Word} {r : Row} (hr : r ∈ storingRows d w) {s t : State}
    (h : exec r.instr s = .next t) : StoresAt r.operand s t := by
  obtain ⟨u, hu, hstores⟩ : ∃ u, exec r.instr s = .next u ∧ StoresAt r.operand s u := by
    have hall := (List.forall_mem_append).2 ⟨writingRows_storesAt d w s, modifyingRows_storesAt d w s⟩
    exact hall r (by simpa only [storingRows, List.append_assoc] using hr)
  rw [h] at hu
  cases hu
  exact hstores

/-- Settles O26: one write at the effective address, after reads that leave memory alone. -/
theorem storingFormsKeepOtherMemory : Obligations.StoringFormsKeepOtherMemory := by
  unfold Obligations.StoringFormsKeepOtherMemory
  intro d w r hr s t b hs hcart hram hexec
  obtain ⟨hmaster, hcyc, hcfg, -, -⟩ := exec_writeFrame hexec
  obtain ⟨u, v, c, hu, ht, hS, hPc⟩ := storingRows_storesAt hr hexec
  have hreads : ReadFrame s u ∧ u.cart = .board b := by
    rcases hu with rfl | rfl
    · exact ⟨resolve_frame _ _, resolve_board hs _⟩
    · exact ⟨(resolve_frame _ _).trans (readEffects_frame _ _), readEffects_board (resolve_board hs _) _⟩
  obtain ⟨hframe, hboard⟩ := hreads
  refine ⟨fun a ha hother => ?memory, fun hlow => ?outside, hmaster, hcyc, hcfg, ?_, ?_⟩
  case memory =>
    have hwrite : peek (memWrite u (resolve r.operand s).ea v) a = peek u a :=
      memWrite_board_memoryKept hboard (by rwa [hboard, ← hs]) (by rwa [hframe.ram]) _ v a ha hother
    have hread : peek u a = peek s a :=
      (SameCpuSpace.refl b).memoryKept hs hboard hframe.ram (fun _ => False) a ha id
    rw [ht, peek_withCpu, hwrite, hread]
  case outside =>
    have hu' : u = (resolve r.operand s).st :=
      hu.elim id fun h => h.trans (readEffects_board_quiet (resolve_board hs _) (.inl hlow))
    obtain ⟨c', m, hwrite⟩ := memWrite_below_ports u hlow v
    rw [ht, hwrite, hu']
    exact ⟨rfl, rfl, (resolve_frame r.operand s).dma, rfl, rfl⟩
  · rw [ht, withCpu_cpu, hS]
  · rw [ht, withCpu_cpu, hPc]

end Sys2Proof.Machine
end

section
/-! PROOFS. What each entry of the opcode matrix encodes, which opcode bytes the fetch refuses, and the jumps
(spec/30_encoding.md rules R110 to R119, R127 and R132, spec/43_control.md rule R221, spec/60_exceptions.md rule
R301). -/

namespace Sys2Proof.Machine

open Sys2Proof.Claims

/-! ### The opcode matrix against the encoder (rules R111, R116, R119) -/

/-- The instructions that an entry builds are encoded with opcode byte `op` and the entry's operand bytes. -/
def EncodesAs (op : Byte) : Entry → Prop
  | .none => True
  | .f1 i => encode i = [op]
  | .f2 f => ∀ d, encode (f d) = [op, d]
  | .f3 f => ∀ w, encode (f w) = [op, lowByte w, highByte w]

/-- The entry at row `r`, column `c` of the matrix stands for opcode byte `16 * r + c`. -/
theorem matrix_encodesAs :
    ∀ row ∈ matrix.zipIdx, ∀ e ∈ row.1.zipIdx, EncodesAs (BitVec.ofNat 8 (16 * row.2 + e.2)) e.1 := by
  simp only [matrix, matrixRow0, matrixRow1, matrixRow2, matrixRow3, matrixRow4, matrixRow5, matrixRow6, matrixRow7,
    matrixRow8, matrixRow9, matrixRowA, matrixRowB, matrixRowC, matrixRowD, matrixRowE, matrixRowF, List.cons_append,
    List.nil_append, List.zipIdx_cons, List.zipIdx_nil, List.forall_mem_cons, List.not_mem_nil, false_imp_iff,
    implies_true, and_true, EncodesAs, true_and]
  and_intros
  all_goals
    intros
    rfl

/-- The matrix and the encoder agree on every opcode byte. -/
theorem entryOf_encodesAs (op : Byte) : EncodesAs op (entryOf op) := by
  have hop := op.isLt
  have hrow : op.toNat / 16 < matrix.length := by
    change op.toNat / 16 < 16
    omega
  have hcolumn : op.toNat % 16 < (matrix[op.toNat / 16]).length := by
    have hall : ∀ row ∈ matrix, row.length = 16 := by decide
    rw [hall _ (List.getElem_mem hrow)]
    omega
  have h := matrix_encodesAs (matrix[op.toNat / 16], op.toNat / 16)
    (List.mk_mem_zipIdx_iff_getElem?.2 (List.getElem?_eq_getElem hrow))
    (matrix[op.toNat / 16][op.toNat % 16], op.toNat % 16)
    (List.mk_mem_zipIdx_iff_getElem?.2 (List.getElem?_eq_getElem hcolumn))
  rw [Nat.div_add_mod, BitVec.ofNat_toNat, BitVec.setWidth_eq] at h
  rwa [entryOf, List.getD_eq_getElem _ _ hrow, List.getD_eq_getElem _ _ hcolumn]

/-- The entry builds no instruction. -/
def isEmptyEntry : Entry → Bool
  | .none => true
  | _ => false

theorem isEmptyEntry_iff (e : Entry) : isEmptyEntry e = true ↔ e = .none := by
  cases e <;> simp [isEmptyEntry]

/-- The empty entries of the matrix are the 29 bytes of rule R132. -/
theorem entryOf_eq_none_iff (op : Byte) : entryOf op = .none ↔ op ∈ undefinedBytes := by
  rw [← isEmptyEntry_iff]
  exact (by decide : ∀ op : Byte, isEmptyEntry (entryOf op) = true ↔ op ∈ undefinedBytes) op

/-- What decodes has the opcode byte it was decoded from. -/
theorem opcode_of_decode {op : Byte} {rest left : List Byte} {i : Instr} (h : decode (op :: rest) = .ok (i, left)) :
    opcode i = op := by
  have hencode := entryOf_encodesAs op
  simp only [decode] at h
  split at h <;> cases h
  all_goals
    rename_i hentry
    rw [hentry] at hencode
    rw [opcode, hencode, List.headD_cons]

/-! ### Fetching an opcode byte (rules R132, R260, R301) -/

/-- The bytes fetched at an undefined opcode byte do not decode. -/
theorem decode_fetched_undefined {s : State} (h : peek s s.cpu.pc ∈ undefinedBytes) :
    decode (fetchInstr s).1 = .error (.undefinedOpcode (peek s s.cpu.pc)) := by
  obtain ⟨rest, hbytes, -⟩ := fetchInstr_bytes s
  simp only [hbytes, decode, (entryOf_eq_none_iff _).2 h]

/-- The bytes fetched at any other opcode byte are an instruction with that opcode byte. -/
theorem decode_fetched_defined {s : State} (h : peek s s.cpu.pc ∉ undefinedBytes) :
    ∃ i, decode (fetchInstr s).1 = .ok (i, []) ∧ opcode i = peek s s.cpu.pc := by
  rcases decode_fetched s with ⟨i, hi⟩ | ⟨-, hnone⟩
  · obtain ⟨rest, hbytes, -⟩ := fetchInstr_bytes s
    exact ⟨i, hi, opcode_of_decode (hbytes ▸ hi)⟩
  · exact absurd ((entryOf_eq_none_iff _).1 hnone) h

/-- An instruction is admitted if its opcode byte is official or listed in `UnofficialSet` (rule R260). -/
theorem wellFormed_iff (cfg : Config) (i : Instr) :
    i.wellFormed cfg = true ↔ (opcode i ∈ unofficialBytes → opcode i ∈ cfg.unofficialSet) := by
  simp [Instr.wellFormed, Instr.isUnofficial, imp_iff_not_or]

/-- The fetch faults on a byte that has no instruction or whose instruction the configuration leaves out. -/
theorem fetchExecute_fault {s : State}
    (h : peek s s.cpu.pc ∈ undefinedBytes ∨
      (peek s s.cpu.pc ∈ unofficialBytes ∧ peek s s.cpu.pc ∉ s.cfg.unofficialSet)) :
    fetchExecute s = .fault (.unknownOpcode (peek s s.cpu.pc) s.cpu.pc s) := by
  by_cases hundefined : peek s s.cpu.pc ∈ undefinedBytes
  · simp only [fetchExecute, decode_fetched_undefined hundefined, unknownOpcode, fetchByte_fst]
  · obtain ⟨i, hi, hop⟩ := decode_fetched_defined hundefined
    have hleftOut : ¬ i.wellFormed s.cfg = true := by
      rw [wellFormed_iff, hop, Classical.not_imp]
      exact h.resolve_left hundefined
    simp only [fetchExecute, hi, if_neg hleftOut, unknownOpcode, fetchByte_fst]

/-- The fetch executes an instruction at every other byte. -/
theorem fetchExecute_next {s : State} (hdefined : peek s s.cpu.pc ∉ undefinedBytes)
    (hadmitted : peek s s.cpu.pc ∈ unofficialBytes → peek s s.cpu.pc ∈ s.cfg.unofficialSet) :
    ∃ t, fetchExecute s = .next t := by
  obtain ⟨i, hi, hop⟩ := decode_fetched_defined hdefined
  have hwf : i.wellFormed s.cfg = true := by rwa [wellFormed_iff, hop]
  obtain ⟨t, ht⟩ := exec_next i (fetchInstr s).2
  exact ⟨t, by simp only [fetchExecute, hi, if_pos hwf, ht]⟩

/-- At an instruction boundary with nothing to service the CPU tick is the fetch (rule R300). -/
theorem cpuTick_of_readyToFetch {s : State} (h : readyToFetch s) : cpuTick s = fetchExecute s := by
  obtain ⟨hwait, hnmi, hirq⟩ := h
  have hmasked : (s.cpu.irqLatch && !s.cpu.i) = false := by rcases hirq with hq | hi <;> simp [*]
  simp [cpuTick, hwait, hnmi, hmasked]

/-- Settles O32: the fetch by the entry of its opcode byte, `fetchExecute_fault` and `fetchExecute_next`. -/
theorem unknownOpcodeFaults : Obligations.UnknownOpcodeFaults := by
  unfold Obligations.UnknownOpcodeFaults
  intro s hready op
  rw [cpuTick_of_readyToFetch hready]
  exact ⟨fetchExecute_fault, fetchExecute_next⟩

/-! ### Jumps (rules R127, R221) -/

/-- The address after `w` in the page of `w`. -/
theorem hilo_page_offset_succ (w : Word) :
    hilo (page w) (offset w + 1) = BitVec.ofNat 16 (w.toNat / 256 * 256 + (w.toNat + 1) % 256) := by
  have hw := w.isLt
  have hpage : (page w).toNat = w.toNat / 256 := by
    rw [page, BitVec.extractLsb'_toNat, Nat.shiftRight_eq_div_pow]
    omega
  have hoffset : (offset w + 1).toNat = (w.toNat + 1) % 256 := by
    simp [offset]
  rw [hilo_eq, hpage, hoffset]

/-- The two pointer reads of an indirect jump, the low byte first, on integers (rule R127). -/
theorem indirectTarget_eq (s : State) (w : Word) :
    indirectTarget s w =
      let next : Word := BitVec.ofNat 16 (w.toNat / 256 * 256 + (w.toNat + 1) % 256)
      (BitVec.ofNat 16 ((peek (readEffects s w) next).toNat * 256 + (peek s w).toNat),
        readEffects (readEffects s w) next) := by
  simp only [indirectTarget, memRead_fst, memRead_snd, hilo_page_offset_succ]
  simp only [hilo_eq]

/-- Settles O14: the absolute form by definition, the indirect one by `indirectTarget_eq`. -/
theorem jumpsJump : Obligations.JumpsJump := by
  unfold Obligations.JumpsJump
  intro w s
  refine ⟨⟨rfl, rfl⟩, rfl, ?_⟩
  intro next s1
  have hexec : exec (.jmpInd w) s = execJmpInd w s := rfl
  rw [hexec, execJmpInd, indirectTarget_eq]
  simp [jumpTo, setWait, next, s1]

end Sys2Proof.Machine
end

section
/-! PROOFS. Loads, stores, transfers and the stack (spec/40_load_store_transfer.md, spec/44_unofficial.md).  The first
part speaks of every form of an instruction shape: what the rows of a mnemonic are is checked row by row, what the
shape does is proved once. -/

namespace Sys2Proof.Machine

open Sys2Proof.Claims

/-! ### Z and N of a result (rule R9) -/

theorem Cpu.setZN_eq_withZN (c : Cpu) (v : Byte) : c.setZN v = withZN c v := rfl

theorem Cpu.loadA_eq_withZN (c : Cpu) (v : Byte) : c.loadA v = withZN { c with a := v } v := rfl

theorem Cpu.loadX_eq_withZN (c : Cpu) (v : Byte) : c.loadX v = withZN { c with x := v } v := rfl

theorem Cpu.loadY_eq_withZN (c : Cpu) (v : Byte) : c.loadY v = withZN { c with y := v } v := rfl

/-! ### From the rows of a mnemonic to what every form does -/

/-- The row's opcode byte encodes its instruction, which executes as a read form with the row's operand, base cycles
and page penalty. -/
structure ReadRow (f : Byte → Cpu → Cpu) (r : Row) : Prop where
  opcode_eq : opcode r.instr = r.byte
  base_pos : 0 < r.base
  exec_eq : ∀ s, exec r.instr s = .next (runRead r.base r.penalty r.operand f s)

/-- The row's opcode byte encodes its instruction, which executes as a write form with the row's operand and base
cycles. -/
structure WriteRow (val : Cpu → Byte) (r : Row) : Prop where
  opcode_eq : opcode r.instr = r.byte
  exec_eq : ∀ s, exec r.instr s = .next (runWrite r.base r.operand val s)

/-- The countdown a read form sets is one less than the ticks its row takes. -/
theorem chargedWait_eq_ticks {r : Row} (hbase : 0 < r.base) (s : State) :
    chargedWait r.base r.penalty r.operand s = ticks r s - 1 := by
  unfold chargedWait ticks
  omega

/-- Every form reads and leaves `g` of the registers, where each row runs as a read form under an `f` equal to `g`. -/
theorem reads_of_rows {rows : Byte → Word → List Row} {f g : Byte → Cpu → Cpu}
    (h : ∀ d w, ∀ r ∈ rows d w, ReadRow f r) (hfg : ∀ m c, f m c = g m c) : Reads rows g := by
  intro d w r hr
  have hrow := h d w r hr
  refine ⟨hrow.opcode_eq, fun s => ?_⟩
  rw [hrow.exec_eq, runRead_eq, chargedWait_eq_ticks hrow.base_pos, hfg]

/-- A write form writes its byte whatever the countdown, as long as the byte does not depend on it. -/
theorem writes_of_rows {rows : Byte → Word → List Row} {val : Cpu → Byte}
    (h : ∀ d w, ∀ r ∈ rows d w, WriteRow val r) (hval : ∀ c n, val { c with waitCycles := n } = val c) :
    Writes rows val := by
  intro d w r hr
  have hrow := h d w r hr
  refine ⟨hrow.opcode_eq, fun s => ?_⟩
  rw [hrow.exec_eq, runWrite_eq, hval]

/-- An implied form under `f` leaves `g` of the registers, where `f` equals `g`. -/
theorem registers_of_runImplied {i : Instr} {byte : Byte} {base : Nat} {f g : Cpu → Cpu} (hopcode : opcode i = byte)
    (hexec : ∀ s, exec i s = .next (runImplied base f s)) (hfg : ∀ c, f c = g c) : Registers i byte base g :=
  ⟨hopcode, fun s => by rw [hexec, runImplied_eq, hfg]⟩

/-! ### Loads (rules R151 to R153, R262) -/

theorem ldaRows_read (d : Byte) (w : Word) : ∀ r ∈ ldaRows d w, ReadRow (fun m c => c.loadA m) r := by
  simp only [ldaRows, eightModes, List.forall_mem_cons, List.not_mem_nil, false_imp_iff, implies_true, and_true]
  and_intros
  all_goals exact ⟨rfl, Nat.succ_pos _, fun _ => rfl⟩

theorem ldxRows_read (d : Byte) (w : Word) : ∀ r ∈ ldxRows d w, ReadRow (fun m c => c.loadX m) r := by
  simp only [ldxRows, List.forall_mem_cons, List.not_mem_nil, false_imp_iff, implies_true, and_true]
  and_intros
  all_goals exact ⟨rfl, Nat.succ_pos _, fun _ => rfl⟩

theorem ldyRows_read (d : Byte) (w : Word) : ∀ r ∈ ldyRows d w, ReadRow (fun m c => c.loadY m) r := by
  simp only [ldyRows, List.forall_mem_cons, List.not_mem_nil, false_imp_iff, implies_true, and_true]
  and_intros
  all_goals exact ⟨rfl, Nat.succ_pos _, fun _ => rfl⟩

theorem laxRows_read (d : Byte) (w : Word) :
    ∀ r ∈ laxRows d w, ReadRow (fun m c => ({ c with a := m, x := m } : Cpu).setZN m) r := by
  simp only [laxRows, List.forall_mem_cons, List.not_mem_nil, false_imp_iff, implies_true, and_true]
  and_intros
  all_goals exact ⟨rfl, Nat.succ_pos _, fun _ => rfl⟩

/-- Settles O5: every row runs as a read form, whose register function sets Z and N from the byte. -/
theorem loadsLoad : Obligations.LoadsLoad := by
  unfold Obligations.LoadsLoad
  exact ⟨reads_of_rows ldaRows_read fun m c => c.loadA_eq_withZN m,
    reads_of_rows ldxRows_read fun m c => c.loadX_eq_withZN m,
    reads_of_rows ldyRows_read fun m c => c.loadY_eq_withZN m,
    reads_of_rows laxRows_read fun m c => Cpu.setZN_eq_withZN _ m⟩

/-! ### Stores (rules R154 to R156, R263) -/

theorem staRows_write (d : Byte) (w : Word) : ∀ r ∈ staRows d w, WriteRow (fun c => c.a) r := by
  simp only [staRows, List.forall_mem_cons, List.not_mem_nil, false_imp_iff, implies_true, and_true]
  and_intros
  all_goals exact ⟨rfl, fun _ => rfl⟩

theorem stxRows_write (d : Byte) (w : Word) : ∀ r ∈ stxRows d w, WriteRow (fun c => c.x) r := by
  simp only [stxRows, List.forall_mem_cons, List.not_mem_nil, false_imp_iff, implies_true, and_true]
  and_intros
  all_goals exact ⟨rfl, fun _ => rfl⟩

theorem styRows_write (d : Byte) (w : Word) : ∀ r ∈ styRows d w, WriteRow (fun c => c.y) r := by
  simp only [styRows, List.forall_mem_cons, List.not_mem_nil, false_imp_iff, implies_true, and_true]
  and_intros
  all_goals exact ⟨rfl, fun _ => rfl⟩

theorem saxRows_write (d : Byte) (w : Word) : ∀ r ∈ saxRows d w, WriteRow (fun c => c.a &&& c.x) r := by
  simp only [saxRows, List.forall_mem_cons, List.not_mem_nil, false_imp_iff, implies_true, and_true]
  and_intros
  all_goals exact ⟨rfl, fun _ => rfl⟩

/-- Settles O6: every row runs as a write form, whose byte is one of the registers or the AND of two. -/
theorem storesStore : Obligations.StoresStore := by
  unfold Obligations.StoresStore
  exact ⟨writes_of_rows staRows_write fun _ _ => rfl, writes_of_rows stxRows_write fun _ _ => rfl,
    writes_of_rows styRows_write fun _ _ => rfl, writes_of_rows saxRows_write fun _ _ => rfl⟩

/-! ### Transfers (rules R157 to R162) -/

/-- Settles O7: each transfer runs as an implied form of two cycles. -/
theorem transfersTransfer : Obligations.TransfersTransfer := by
  unfold Obligations.TransfersTransfer
  exact ⟨registers_of_runImplied rfl (fun _ => rfl) fun c => c.loadX_eq_withZN c.a,
    registers_of_runImplied rfl (fun _ => rfl) fun c => c.loadY_eq_withZN c.a,
    registers_of_runImplied rfl (fun _ => rfl) fun c => c.loadA_eq_withZN c.x,
    registers_of_runImplied rfl (fun _ => rfl) fun c => c.loadA_eq_withZN c.y,
    registers_of_runImplied rfl (fun _ => rfl) fun c => c.loadX_eq_withZN c.s,
    registers_of_runImplied rfl (fun _ => rfl) fun _ => rfl⟩

/-! ### Pushes and pulls (rules R165 to R168) -/

/-- The address of a stack access (rule R21) on integers. -/
theorem stackAddr_eq_cell (sp : Byte) : stackAddr sp = cell sp :=
  BitVec.eq_of_toNat_eq (by
    have := sp.isLt
    rw [stackAddr_toNat, cell, BitVec.toNat_ofNat]
    omega)

/-- A push with the countdown set: one write at the cell of `S`, then `S` one lower. -/
theorem push_setWait (s : State) (n : Nat) (v : Byte) :
    push (setWait s n) v =
      (memWrite s (cell s.cpu.s) v).withCpu { s.cpu with s := s.cpu.s - 1, waitCycles := n } := by
  rw [push_eq, stackAddr_eq_cell]
  simp [setWait]

/-- A pull with the countdown set: `S` one higher, then one read at its cell. -/
theorem pop_setWait (s : State) (n : Nat) :
    pop (setWait s n) =
      (peek s (cell (s.cpu.s + 1)),
        (readEffects s (cell (s.cpu.s + 1))).withCpu { s.cpu with s := s.cpu.s + 1, waitCycles := n }) := by
  rw [pop_eq, stackAddr_eq_cell]
  simp [setWait]

theorem exec_pha (s : State) : exec .pha s = .next (push (setWait s 2) s.cpu.a) := rfl

theorem exec_php (s : State) : exec .php s = .next (push (setWait s 2) (s.cpu.pbyte true)) := rfl

theorem exec_pla (s : State) :
    exec .pla s =
      let m := pop (setWait s 3)
      .next (m.2.withCpu (m.2.cpu.loadA m.1)) := rfl

theorem exec_plp (s : State) :
    exec .plp s =
      let m := pop (setWait s 3)
      .next (m.2.withCpu (m.2.cpu.setP m.1)) := rfl

/-- Settles O8: the four are `push` and `pop` at the cell of `S`; the byte PHP pushes is the status byte with bit 4
set, whose bits are those of `pbyte_bits`. -/
theorem pushesAndPulls : Obligations.PushesAndPulls := by
  unfold Obligations.PushesAndPulls
  refine ⟨⟨rfl, rfl, rfl, rfl⟩, fun s => ⟨?pha, ⟨s.cpu.pbyte true, ?php, pbyte_bits s.cpu true⟩, ?pla, ?plp⟩⟩
  case pha => rw [exec_pha, push_setWait]
  case php => rw [exec_php, push_setWait]
  case pla =>
    rw [exec_pla, pop_setWait]
    rfl
  case plp =>
    rw [exec_plp, pop_setWait]
    rfl

end Sys2Proof.Machine
end

section
/-! PROOFS. Arithmetic, logic and compare (spec/41_alu.md, and rule R264 of spec/44_unofficial.md).  The adder's nine
bits are tied to integers once; subtraction is the same adder on the inverted operand. -/

namespace Sys2Proof.Machine

open Sys2Proof.Claims

/-! ### The nine-bit adder on integers (rules R182, R183) -/

theorem carry_le_one (c : Cpu) : carry c ≤ 1 := by
  unfold carry
  split <;> omega

/-- The carry flag as an addend of the nine-bit sum. -/
theorem zeroExtend_ofBool_c (c : Cpu) : (BitVec.ofBool c.c).zeroExtend 9 = BitVec.ofNat 9 (carry c) := by
  unfold carry
  cases c.c <;> rfl

/-- The nine-bit sum of rule R182. -/
def nineBitSum (c : Cpu) (m : Byte) : BitVec 9 := c.a.zeroExtend 9 + m.zeroExtend 9 + BitVec.ofNat 9 (carry c)

/-- Nine bits hold the whole sum. -/
theorem nineBitSum_toNat (c : Cpu) (m : Byte) : (nineBitSum c m).toNat = c.a.toNat + m.toNat + carry c := by
  have ha := c.a.isLt
  have hm := m.isLt
  have hcarry := carry_le_one c
  simp only [nineBitSum, BitVec.toNat_add, BitVec.truncate_eq_setWidth, BitVec.toNat_setWidth, BitVec.toNat_ofNat]
  omega

theorem nineBitSum_low (c : Cpu) (m : Byte) :
    (nineBitSum c m).extractLsb' 0 8 = BitVec.ofNat 8 (c.a.toNat + m.toNat + carry c) := by
  rw [← nineBitSum_toNat, BitVec.ofNat_toNat, BitVec.setWidth_eq_extractLsb' (by decide)]

theorem nineBitSum_carryOut (c : Cpu) (m : Byte) :
    (nineBitSum c m).getLsbD 8 = decide (256 ≤ c.a.toNat + m.toNat + carry c) := by
  rw [← nineBitSum_toNat]
  exact (nineBitSum c m).msb_eq_decide

/-- The signed value of a byte by its sign bit. -/
theorem toInt_eq_of_sign (x : Byte) : x.toInt = if 128 ≤ x.toNat then (x.toNat : Int) - 256 else x.toNat := by
  rw [BitVec.toInt_eq_toNat_cond]
  split <;> split <;> omega

/-- The formula for `V` in rule R182: both operands have a sign bit other than the result's exactly when the signed sum
does not fit a byte.  Operands of different signs never overflow; operands of one sign do when the result's differs. -/
theorem signs_differ_iff_overflow (a m : Byte) {k : Nat} (hk : k ≤ 1) :
    let r : Byte := BitVec.ofNat 8 (a.toNat + m.toNat + k)
    let signed : Int := a.toInt + m.toInt + (k : Int)
    ((a ^^^ r) &&& (m ^^^ r)).getLsbD 7 = decide (signed < -128 ∨ 127 < signed) := by
  intro r signed
  have ha := a.isLt
  have hm := m.isLt
  have hr : r.toNat = (a.toNat + m.toNat + k) % 256 := BitVec.toNat_ofNat _ _
  have hsigns : ((a ^^^ r) &&& (m ^^^ r)).getLsbD 7 = ((a.msb ^^ r.msb) && (m.msb ^^ r.msb)) := by
    rw [← BitVec.msb_xor, ← BitVec.msb_xor, ← BitVec.msb_and, BitVec.msb_eq_getLsbD_last]
  rw [hsigns, Bool.eq_iff_iff]
  simp only [signed, toInt_eq_of_sign, BitVec.msb_eq_decide, hr]
  by_cases ha' : 128 ≤ a.toNat <;> by_cases hm' : 128 ≤ m.toNat <;> simp [ha', hm'] <;> omega

/-- The sum on integers is the nine-bit sum with rule R182's formula for `V`. -/
theorem addInts_eq_nineBitSum (c : Cpu) (m : Byte) :
    let r : Byte := (nineBitSum c m).extractLsb' 0 8
    addInts c m =
      { c with
        v := ((c.a ^^^ r) &&& (m ^^^ r)).getLsbD 7
        c := (nineBitSum c m).getLsbD 8
        a := r
        z := decide (r = 0)
        n := r.getLsbD 7 } := by
  intro r
  simp only [r, nineBitSum_low, nineBitSum_carryOut, signs_differ_iff_overflow _ _ (carry_le_one c)]
  rfl

theorem Cpu.addWithCarry_eq_addInts (c : Cpu) (m : Byte) : c.addWithCarry m = addInts c m := by
  rw [addInts_eq_nineBitSum, nineBitSum, ← zeroExtend_ofBool_c]
  rfl

/-! ### Subtraction as addition (rule R184) -/

theorem toNat_xor_FF (m : Byte) : (m ^^^ 0xFF).toNat = 255 - m.toNat := by
  change (m ^^^ BitVec.allOnes 8).toNat = _
  rw [BitVec.xor_allOnes, BitVec.toNat_not]

theorem toInt_xor_FF (m : Byte) : (m ^^^ 0xFF).toInt = -1 - m.toInt := by
  have hm := m.isLt
  rw [toInt_eq_of_sign, toInt_eq_of_sign, toNat_xor_FF]
  split <;> split <;> omega

/-- The difference with borrow is 256 less than the sum with the inverted operand, and its signed value is the signed
sum with it. -/
theorem subInts_eq_addInts (c : Cpu) (m : Byte) : subInts c m = addInts c (m ^^^ 0xFF) := by
  have hm := m.isLt
  have hdiff : (c.a.toNat : Int) - m.toNat - (1 - carry c) =
      ((c.a.toNat + (m ^^^ 0xFF).toNat + carry c : Nat) : Int) - 256 := by
    rw [toNat_xor_FF]
    omega
  have hsigned : c.a.toInt - m.toInt - (1 - carry c) = c.a.toInt + (m ^^^ 0xFF).toInt + carry c := by
    rw [toInt_xor_FF]
    omega
  have hbyte (n : Nat) : BitVec.ofInt 8 ((n : Int) - 256) = BitVec.ofNat 8 n := by
    rw [Int.sub_eq_add_neg, BitVec.ofInt_add, BitVec.ofInt_natCast]
    exact BitVec.add_zero _
  have hborrow (n : Nat) : (0 ≤ (n : Int) - 256) ↔ 256 ≤ n := by omega
  simp only [subInts, addInts, hdiff, hsigned, hbyte, hborrow]

theorem Cpu.subWithBorrow_eq_subInts (c : Cpu) (m : Byte) : c.subWithBorrow m = subInts c m := by
  rw [Cpu.subWithBorrow, Cpu.addWithCarry_eq_addInts, subInts_eq_addInts]

/-! ### The comparator (rules R188 to R191) -/

/-- Subtracting bytes modulo 256 is subtracting their values. -/
theorem ofInt_toNat_sub_toNat (x y : Byte) : BitVec.ofInt 8 ((x.toNat : Int) - y.toNat) = x - y := by
  apply BitVec.eq_of_toNat_eq
  rw [BitVec.toNat_ofInt, BitVec.toNat_sub]
  omega

theorem Cpu.compare_eq_compareInts (c : Cpu) (r m : Byte) : c.compare r m = compareInts c r m := by
  have hz : (r - m == 0) = decide (r = m) := by
    rw [beq_eq_decide, decide_eq_decide, sub_eq_zero]
  simp only [Cpu.compare, Cpu.setZN, hz, compareInts, ofInt_toNat_sub_toNat]
  rfl

/-! ### The rows (rules R183 to R192, R264) -/

/-- Every form of the family runs as a read form, one register function to a mnemonic. -/
theorem aluRows_read :
    (∀ d w, ∀ r ∈ adcRows d w, ReadRow (fun m c => c.addWithCarry m) r) ∧
    (∀ d w, ∀ r ∈ sbcRows d w, ReadRow (fun m c => c.subWithBorrow m) r) ∧
    (∀ d w, ∀ r ∈ sbcEbRows d w, ReadRow (fun m c => c.subWithBorrow m) r) ∧
    (∀ d w, ∀ r ∈ andRows d w, ReadRow (fun m c => c.loadA (c.a &&& m)) r) ∧
    (∀ d w, ∀ r ∈ oraRows d w, ReadRow (fun m c => c.loadA (c.a ||| m)) r) ∧
    (∀ d w, ∀ r ∈ eorRows d w, ReadRow (fun m c => c.loadA (c.a ^^^ m)) r) ∧
    (∀ d w, ∀ r ∈ cmpRows d w, ReadRow (fun m c => c.compare c.a m) r) ∧
    (∀ d w, ∀ r ∈ cpxRows d w, ReadRow (fun m c => c.compare c.x m) r) ∧
    (∀ d w, ∀ r ∈ cpyRows d w, ReadRow (fun m c => c.compare c.y m) r) ∧
    (∀ d w, ∀ r ∈ bitRows d w, ReadRow (fun m c => c.bitTest m) r) := by
  simp only [adcRows, sbcRows, sbcEbRows, andRows, oraRows, eorRows, cmpRows, cpxRows, cpyRows, bitRows, eightModes,
    List.forall_mem_cons, List.not_mem_nil, false_imp_iff, implies_true, and_true]
  and_intros
  all_goals
    intros
    and_intros
  all_goals exact ⟨rfl, Nat.succ_pos _, fun _ => rfl⟩

/-- Settles O9: every row runs as a read form under the adder, which is the sum on integers. -/
theorem adcAdds : Obligations.AdcAdds := by
  unfold Obligations.AdcAdds
  obtain ⟨hadc, -⟩ := aluRows_read
  exact ⟨reads_of_rows hadc fun m c => c.addWithCarry_eq_addInts m, addInts_eq_nineBitSum⟩

/-- Settles O10: every row runs as a read form under the adder on the inverted operand, which is the difference on
integers. -/
theorem sbcSubtracts : Obligations.SbcSubtracts := by
  unfold Obligations.SbcSubtracts
  obtain ⟨-, hsbc, hsbcEb, -⟩ := aluRows_read
  exact ⟨reads_of_rows hsbc fun m c => c.subWithBorrow_eq_subInts m,
    reads_of_rows hsbcEb fun m c => c.subWithBorrow_eq_subInts m, subInts_eq_addInts⟩

/-- Settles O11: AND, ORA and EOR run as loads of the combined byte, the compares under the comparator, BIT under its
bit test. -/
theorem logicAndCompare : Obligations.LogicAndCompare := by
  unfold Obligations.LogicAndCompare
  obtain ⟨-, -, -, hand, hora, heor, hcmp, hcpx, hcpy, hbit⟩ := aluRows_read
  exact ⟨reads_of_rows hand fun m c => c.loadA_eq_withZN (c.a &&& m),
    reads_of_rows hora fun m c => c.loadA_eq_withZN (c.a ||| m),
    reads_of_rows heor fun m c => c.loadA_eq_withZN (c.a ^^^ m),
    reads_of_rows hcmp fun m c => c.compare_eq_compareInts c.a m,
    reads_of_rows hcpx fun m c => c.compare_eq_compareInts c.x m,
    reads_of_rows hcpy fun m c => c.compare_eq_compareInts c.y m, reads_of_rows hbit fun _ _ => rfl⟩

end Sys2Proof.Machine
end

section
/-! PROOFS. Shifts, rotates, increments and decrements (spec/42_rmw_shift.md).  The read-modify-write shape is taken
from the rows once, for any function of the byte; what the functions of this family do to a byte is tied to integers
one by one. -/

namespace Sys2Proof.Machine

open Sys2Proof.Claims

/-! ### From the rows of a mnemonic to what every form does (rules R200, R265) -/

/-- The row's opcode byte encodes its instruction, which executes as a read-modify-write form with the row's operand and
base cycles. -/
structure ModifyRow (f : Byte → Cpu → Byte × Cpu) (g : Byte → Cpu → Cpu) (r : Row) : Prop where
  opcode_eq : opcode r.instr = r.byte
  exec_eq : ∀ s, exec r.instr s = .next (runRmw r.base r.operand f g s)

/-- Every form writes `out` of the byte read and leaves `after` of the registers, where each row runs as a
read-modify-write form under `f` then `g`, and the byte written does not depend on the countdown. -/
theorem modifies_of_rows {rows : Byte → Word → List Row} {f : Byte → Cpu → Byte × Cpu} {g : Byte → Cpu → Cpu}
    {out : Byte → Cpu → Byte} {after : Byte → Byte → Cpu → Cpu} (h : ∀ d w, ∀ r ∈ rows d w, ModifyRow f g r)
    (hout : ∀ m c, (f m c).1 = out m c) (hwait : ∀ m c n, out m { c with waitCycles := n } = out m c)
    (hafter : ∀ m r c, g r (f m c).2 = after m r c) : Modifies rows out after := by
  intro d w r hr
  have hrow := h d w r hr
  refine ⟨hrow.opcode_eq, fun s => ?_⟩
  rw [hrow.exec_eq, runRmw_eq, hafter, hout, hwait]

/-- An accumulator form under `f` replaces `A` by the byte `out` and sets the flags from the bit shifted out and that
byte. -/
theorem registers_of_runAcc {i : Instr} {byte : Byte} {base : Nat} {f : Byte → Cpu → Byte × Cpu}
    {out : Byte → Cpu → Byte} {shiftedOut : Byte → Bool} (hopcode : opcode i = byte)
    (hexec : ∀ s, exec i s = .next (runAcc base f s)) (hout : ∀ m c, (f m c).1 = out m c)
    (hflags : ∀ m c, (f m c).2 = { c with c := shiftedOut m }) :
    Registers i byte base fun c => shiftFlags { c with a := out c.a c } (shiftedOut c.a) (out c.a c) :=
  registers_of_runImplied hopcode hexec fun c => by
    change (f c.a c).2.loadA (f c.a c).1 = _
    rw [hout, hflags]
    rfl

/-! ### The bytes on integers (rules R201 to R206) -/

/-- The carry flag as a byte. -/
theorem zeroExtend_ofBool_c_toNat (c : Cpu) : ((BitVec.ofBool c.c).zeroExtend 8).toNat = carry c := by
  unfold carry
  cases c.c <;> rfl

theorem Cpu.asl_fst_eq_double (m : Byte) (c : Cpu) : (Cpu.asl m c).1 = BitVec.ofNat 8 (2 * m.toNat) := by
  apply BitVec.eq_of_toNat_eq
  rw [Cpu.asl_fst, BitVec.toNat_shiftLeft, BitVec.toNat_ofNat, Nat.shiftLeft_eq, Nat.mul_comm]

theorem Cpu.lsr_fst_eq_half (m : Byte) (c : Cpu) : (Cpu.lsr m c).1 = BitVec.ofNat 8 (m.toNat / 2) := by
  have hm := m.isLt
  apply BitVec.eq_of_toNat_eq
  rw [Cpu.lsr_fst, BitVec.toNat_ushiftRight, BitVec.toNat_ofNat, Nat.shiftRight_eq_div_pow]
  omega

/-- The carry enters at bit 0, which the shifted byte leaves free, so the OR is a sum. -/
theorem Cpu.rol_fst_eq_double_add_carry (m : Byte) (c : Cpu) :
    (Cpu.rol m c).1 = BitVec.ofNat 8 (2 * m.toNat + carry c) := by
  have hcarry := carry_le_one c
  have hshift : m.toNat <<< 1 % 2 ^ 8 = (m.toNat % 128) <<< 1 := by
    rw [Nat.shiftLeft_eq, Nat.shiftLeft_eq]
    omega
  apply BitVec.eq_of_toNat_eq
  rw [Cpu.rol_fst, BitVec.toNat_or, BitVec.toNat_shiftLeft, zeroExtend_ofBool_c_toNat, hshift,
    ← Nat.shiftLeft_add_eq_or_of_lt (by omega), Nat.shiftLeft_eq, BitVec.toNat_ofNat]
  omega

/-- The carry enters at bit 7, which the shifted byte leaves free, so the OR is a sum. -/
theorem Cpu.ror_fst_eq_half_add_carry (m : Byte) (c : Cpu) :
    (Cpu.ror m c).1 = BitVec.ofNat 8 (m.toNat / 2 + 128 * carry c) := by
  have hm := m.isLt
  have hcarry := carry_le_one c
  have hshift : carry c <<< 7 % 2 ^ 8 = carry c <<< 7 := by
    rw [Nat.shiftLeft_eq]
    omega
  apply BitVec.eq_of_toNat_eq
  rw [Cpu.ror_fst, BitVec.toNat_or, BitVec.toNat_ushiftRight, BitVec.toNat_shiftLeft, zeroExtend_ofBool_c_toNat, hshift,
    Nat.shiftRight_eq_div_pow, Nat.or_comm, ← Nat.shiftLeft_add_eq_or_of_lt (by omega), Nat.shiftLeft_eq,
    BitVec.toNat_ofNat]
  omega

theorem Cpu.inc_fst_eq_succ (m : Byte) (c : Cpu) : (Cpu.inc m c).1 = BitVec.ofNat 8 (m.toNat + 1) :=
  BitVec.eq_of_toNat_eq rfl

/-- Subtracting 1 is adding 255 modulo 256. -/
theorem Cpu.dec_fst_eq_add_255 (m : Byte) (c : Cpu) : (Cpu.dec m c).1 = BitVec.ofNat 8 (m.toNat + 255) := by
  apply BitVec.eq_of_toNat_eq
  rw [Cpu.dec_fst, BitVec.toNat_sub, BitVec.toNat_ofNat, Nat.add_comm]
  rfl

/-! ### The rows (rules R201 to R206) -/

/-- Every memory form of the family runs as a read-modify-write form that sets Z and N from the byte written, one
function of the byte to a mnemonic. -/
theorem rmwRows_modify :
    (∀ d w, ∀ r ∈ aslRows d w, ModifyRow Cpu.asl (fun v c => c.setZN v) r) ∧
    (∀ d w, ∀ r ∈ lsrRows d w, ModifyRow Cpu.lsr (fun v c => c.setZN v) r) ∧
    (∀ d w, ∀ r ∈ rolRows d w, ModifyRow Cpu.rol (fun v c => c.setZN v) r) ∧
    (∀ d w, ∀ r ∈ rorRows d w, ModifyRow Cpu.ror (fun v c => c.setZN v) r) ∧
    (∀ d w, ∀ r ∈ incRows d w, ModifyRow Cpu.inc (fun v c => c.setZN v) r) ∧
    (∀ d w, ∀ r ∈ decRows d w, ModifyRow Cpu.dec (fun v c => c.setZN v) r) := by
  simp only [aslRows, lsrRows, rolRows, rorRows, incRows, decRows, fourModes, List.forall_mem_cons, List.not_mem_nil,
    false_imp_iff, implies_true, and_true]
  and_intros
  all_goals
    intros
    and_intros
  all_goals exact ⟨rfl, fun _ => rfl⟩

/-- Settles O12: the memory forms run as read-modify-write forms and the accumulator forms on `A`, all under one function
of the byte to a mnemonic, which is the shift or rotation on integers. -/
theorem shiftsShift : Obligations.ShiftsShift := by
  unfold Obligations.ShiftsShift
  obtain ⟨hasl, hlsr, hrol, hror, -⟩ := rmwRows_modify
  exact ⟨modifies_of_rows hasl Cpu.asl_fst_eq_double (fun _ _ _ => rfl) fun _ _ _ => rfl,
    modifies_of_rows hlsr Cpu.lsr_fst_eq_half (fun _ _ _ => rfl) fun _ _ _ => rfl,
    modifies_of_rows hrol Cpu.rol_fst_eq_double_add_carry (fun _ _ _ => rfl) fun _ _ _ => rfl,
    modifies_of_rows hror Cpu.ror_fst_eq_half_add_carry (fun _ _ _ => rfl) fun _ _ _ => rfl,
    registers_of_runAcc rfl (fun _ => rfl) Cpu.asl_fst_eq_double Cpu.asl_snd,
    registers_of_runAcc rfl (fun _ => rfl) Cpu.lsr_fst_eq_half Cpu.lsr_snd,
    registers_of_runAcc rfl (fun _ => rfl) Cpu.rol_fst_eq_double_add_carry Cpu.rol_snd,
    registers_of_runAcc rfl (fun _ => rfl) Cpu.ror_fst_eq_half_add_carry Cpu.ror_snd⟩

/-- Settles O13: INC and DEC run as read-modify-write forms that leave the carry alone, the register forms as loads of
the counted byte. -/
theorem incrementsAndDecrements : Obligations.IncrementsAndDecrements := by
  unfold Obligations.IncrementsAndDecrements
  obtain ⟨-, -, -, -, hinc, hdec⟩ := rmwRows_modify
  exact ⟨modifies_of_rows hinc Cpu.inc_fst_eq_succ (fun _ _ _ => rfl) fun _ _ c => c.setZN_eq_withZN _,
    modifies_of_rows hdec Cpu.dec_fst_eq_add_255 (fun _ _ _ => rfl) fun _ _ c => c.setZN_eq_withZN _,
    registers_of_runImplied rfl (fun _ => rfl) fun c => c.loadX_eq_withZN (c.x + 1),
    registers_of_runImplied rfl (fun _ => rfl) fun c => c.loadY_eq_withZN (c.y + 1),
    registers_of_runImplied rfl (fun _ => rfl) fun c => c.loadX_eq_withZN (c.x - 1),
    registers_of_runImplied rfl (fun _ => rfl) fun c => c.loadY_eq_withZN (c.y - 1)⟩

end Sys2Proof.Machine
end

section
/-! PROOFS. Subroutines, BRK and RTI, branches and the flag instructions (spec/43_control.md).  What each instruction
does access by access is stated once in the model's own addresses and bytes; the integer forms and the two round trips,
RTS after JSR and RTI after an interrupt entry, are read off those equations. -/

namespace Sys2Proof.Machine

open Sys2Proof.Claims

/-! ### What the stack instructions do, access by access (rules R222, R223, R226, R228) -/

theorem exec_jsr (w : Word) (s : State) :
    exec (.jsr w) s =
      .next ((memWrite (memWrite s (stackAddr s.cpu.s) (highByte (s.cpu.pc - 1))) (stackAddr (s.cpu.s - 1))
          (lowByte (s.cpu.pc - 1))).withCpu { s.cpu with s := s.cpu.s - 2, pc := w, waitCycles := 5 }) := by
  have hexec : exec (.jsr w) s = .next (jumpTo (push16 (setWait s 5) (s.cpu.pc - 1)) w) := rfl
  rw [hexec, push16_eq]
  simp [setWait, jumpTo]

theorem exec_rts (s : State) :
    exec .rts s =
      let s1 := readEffects s (stackAddr (s.cpu.s + 1))
      .next ((readEffects s1 (stackAddr (s.cpu.s + 2))).withCpu
        { s.cpu with
          s := s.cpu.s + 2
          pc := hilo (peek s1 (stackAddr (s.cpu.s + 2))) (peek s (stackAddr (s.cpu.s + 1))) + 1
          waitCycles := 5 }) := by
  have hexec : exec .rts s =
      .next (jumpTo (pop16 (setWait s 5)).2 ((pop16 (setWait s 5)).1 + 1)) := rfl
  rw [hexec, pop16_eq]
  simp [setWait, jumpTo]

theorem exec_brk (s : State) :
    exec .brk s =
      let t := memWrite
        (memWrite (memWrite s (stackAddr s.cpu.s) (highByte (s.cpu.pc + 1))) (stackAddr (s.cpu.s - 1))
          (lowByte (s.cpu.pc + 1)))
        (stackAddr (s.cpu.s - 2)) (s.cpu.pbyte true)
      .next ((readEffects (readEffects t 0xFFFE) 0xFFFF).withCpu
        { s.cpu with
          s := s.cpu.s - 3
          i := true
          pc := hilo (peek (readEffects t 0xFFFE) 0xFFFF) (peek t 0xFFFE)
          waitCycles := 6 }) := by
  have hexec : exec .brk s = .next (enterHandler (setWait s 6) (s.cpu.pc + 1) true 0xFFFE) := rfl
  have hnext : (0xFFFE : Word) + 1 = 0xFFFF := by decide
  have hp : (setWait s 6).cpu.pbyte true = s.cpu.pbyte true := rfl
  rw [hexec, enterHandler_eq, hnext, hp]
  simp [setWait]

theorem exec_rti (s : State) :
    exec .rti s =
      let s1 := readEffects s (stackAddr (s.cpu.s + 1))
      let s2 := readEffects s1 (stackAddr (s.cpu.s + 2))
      .next ((readEffects s2 (stackAddr (s.cpu.s + 3))).withCpu
        { s.cpu.setP (peek s (stackAddr (s.cpu.s + 1))) with
          s := s.cpu.s + 3
          pc := hilo (peek s2 (stackAddr (s.cpu.s + 3))) (peek s1 (stackAddr (s.cpu.s + 2)))
          waitCycles := 5 }) := by
  have hexec : exec .rti s = .next (interruptReturn (setWait s 5)) := rfl
  have hthree (v : Byte) : v + 1#8 + 2#8 = v + 3#8 := BitVec.add_assoc v 1 2
  rw [hexec, interruptReturn, pop_eq]
  simp [pop16_eq, setWait, jumpTo, add_one_one, hthree, Cpu.setP]

/-! ### The same on integers -/

/-- The word after an assembled word. -/
theorem hilo_add_one (hi lo : Byte) : hilo hi lo + 1 = BitVec.ofNat 16 (hi.toNat * 256 + lo.toNat + 1) := by
  rw [hilo_eq]
  exact (BitVec.ofNat_add _ 1).symm

/-- Settles O15: `exec_jsr` and `exec_rts` with their addresses and bytes on integers. -/
theorem subroutinesCallAndReturn : Obligations.SubroutinesCallAndReturn := by
  unfold Obligations.SubroutinesCallAndReturn
  intro w s
  refine ⟨⟨rfl, rfl⟩, ?jsr, ?rts⟩
  case jsr =>
    intro ret
    have hret : (s.cpu.pc - 1).toNat = ret % 65536 := by
      rw [BitVec.toNat_sub, Nat.add_comm]
      rfl
    rw [exec_jsr, highByte_eq hret, lowByte_eq hret, stackAddr_eq_cell, stackAddr_eq_cell]
  case rts =>
    intro s1 lo hi
    rw [exec_rts]
    simp only [hilo_add_one, stackAddr_eq_cell]
    rfl

/-- Settles O17: `exec_brk` and `exec_rti` with their addresses and bytes on integers. -/
theorem brkAndRti : Obligations.BrkAndRti := by
  unfold Obligations.BrkAndRti
  refine ⟨⟨rfl, rfl⟩, fun s => ⟨?brk, ?rti⟩⟩
  case brk =>
    intro ret t lo hi
    have hret : (s.cpu.pc + 1).toNat = ret % 65536 := BitVec.toNat_add _ _
    rw [exec_brk, highByte_eq hret, lowByte_eq hret]
    simp only [hilo_eq, stackAddr_eq_cell]
    rfl
  case rti =>
    intro a1 a2 a3 s1 s2 p
    rw [exec_rti]
    simp only [hilo_eq, stackAddr_eq_cell]
    rfl

/-! ### Pushed bytes in work RAM (rule R21) -/

/-- The work RAM index of a stack cell. -/
theorem cell_toNat (sp : Byte) : (cell sp).toNat = 256 + sp.toNat := by rw [← stackAddr_eq_cell, stackAddr_toNat]

/-- A stack cell reads as written, every other one as before. -/
theorem read_write_cell {m : Memory} (h : m.wf Config.ramSize = true) (sp sq v : Byte) :
    (m.write (256 + sp.toNat) v).read (256 + sq.toNat) = if sq = sp then v else m.read (256 + sq.toNat) := by
  rw [Memory.read_write h]
  simp only [Nat.add_left_cancel_iff, BitVec.toNat_inj]

theorem wf_write_cell {m : Memory} (h : m.wf Config.ramSize = true) (sp v : Byte) :
    (m.write (256 + sp.toNat) v).wf Config.ramSize = true := by
  have hsp : 256 + sp.toNat < Config.ramSize := by
    have := sp.isLt
    rw [Config.ramSize]
    omega
  exact Memory.wf_write h hsp v

/-- Moving `S` by a number that is not 0 modulo 256 names another cell. -/
theorem ne_sub_of_ne_zero {sp k : Byte} (hk : k ≠ 0) : sp ≠ sp - k := fun h => hk (sub_eq_self.1 h.symm)

/-- Work RAM after a word is pushed at `sp`, the high byte first (rule R80). -/
def pushedWord (m : Memory) (sp : Byte) (w : Word) : Memory :=
  (m.write (256 + sp.toNat) (highByte w)).write (256 + (sp - 1).toNat) (lowByte w)

/-- Work RAM after an interrupt entry's three pushes at `sp`: the return address, then the status (rule R303). -/
def pushedFrame (m : Memory) (sp : Byte) (ret : Word) (status : Byte) : Memory :=
  (pushedWord m sp ret).write (256 + (sp - 2).toNat) status

theorem wf_pushedWord {m : Memory} (h : m.wf Config.ramSize = true) (sp : Byte) (w : Word) :
    (pushedWord m sp w).wf Config.ramSize = true :=
  wf_write_cell (wf_write_cell h _ _) _ _

theorem read_pushedWord_high {m : Memory} (h : m.wf Config.ramSize = true) (sp : Byte) (w : Word) :
    (pushedWord m sp w).read (256 + sp.toNat) = highByte w := by
  have hne : sp ≠ sp - 1 := ne_sub_of_ne_zero (by decide)
  rw [pushedWord, read_write_cell (wf_write_cell h _ _), if_neg hne, read_write_cell h, if_pos rfl]

theorem read_pushedWord_low {m : Memory} (h : m.wf Config.ramSize = true) (sp : Byte) (w : Word) :
    (pushedWord m sp w).read (256 + (sp - 1).toNat) = lowByte w := by
  rw [pushedWord, read_write_cell (wf_write_cell h _ _), if_pos rfl]

theorem read_pushedFrame_status {m : Memory} (h : m.wf Config.ramSize = true) (sp : Byte) (ret : Word)
    (status : Byte) : (pushedFrame m sp ret status).read (256 + (sp - 2).toNat) = status := by
  rw [pushedFrame, read_write_cell (wf_pushedWord h _ _), if_pos rfl]

/-- The status is pushed below the return address. -/
theorem read_pushedFrame_other {m : Memory} (h : m.wf Config.ramSize = true) {sp sq : Byte} (hne : sq ≠ sp - 2)
    (ret : Word) (status : Byte) :
    (pushedFrame m sp ret status).read (256 + sq.toNat) = (pushedWord m sp ret).read (256 + sq.toNat) := by
  rw [pushedFrame, read_write_cell (wf_pushedWord h _ _), if_neg hne]

/-- The two bytes of a word, put together again. -/
theorem hilo_split (w : Word) : hilo (highByte w) (lowByte w) = w := assemble16_split w

/-! ### Where the stack page is work RAM -/

theorem stack_write_word {s : State} (h : stackIsRam s) (sp : Byte) (w : Word) :
    memWrite (memWrite s (stackAddr sp) (highByte w)) (stackAddr (sp - 1)) (lowByte w) =
      { s with ram := pushedWord s.ram sp w } := by
  rw [stack_write h, stack_write_ram h]
  rfl

theorem enterHandler_ram {s : State} (h : stackIsRam s) (ret : Word) (b : Bool) (vector : Word) :
    (enterHandler s ret b vector).ram = pushedFrame s.ram s.cpu.s ret (s.cpu.pbyte b) := by
  rw [enterHandler_eq, stack_write_word h, stack_write_ram h]
  exact (readEffects_frame _ _).ram.trans (readEffects_frame _ _).ram

theorem interruptEntry_ram {s : State} (h : stackIsRam s) (vector : Word) :
    (interruptEntry s vector).ram = pushedFrame s.ram s.cpu.s s.cpu.pc (s.cpu.pbyte s.cpu.b) :=
  enterHandler_ram h _ _ _

/-- RTS from work RAM touches nothing but the CPU. -/
theorem exec_rts_stackIsRam {b : State} (h : stackIsRam b) :
    exec .rts b =
      .next (b.withCpu
        { b.cpu with
          s := b.cpu.s + 2
          pc := hilo (b.ram.read (256 + (b.cpu.s + 2).toNat)) (b.ram.read (256 + (b.cpu.s + 1).toNat)) + 1
          waitCycles := 5 }) := by
  rw [exec_rts]
  simp only [stack_effects h, stack_peek h]

/-- RTI from work RAM touches nothing but the CPU. -/
theorem exec_rti_stackIsRam {b : State} (h : stackIsRam b) :
    exec .rti b =
      .next (b.withCpu
        { b.cpu.setP (b.ram.read (256 + (b.cpu.s + 1).toNat)) with
          s := b.cpu.s + 3
          pc := hilo (b.ram.read (256 + (b.cpu.s + 3).toNat)) (b.ram.read (256 + (b.cpu.s + 2).toNat))
          waitCycles := 5 }) := by
  rw [exec_rti]
  simp only [stack_effects h, stack_peek h]

/-- The status byte, whatever its bit 4, sets the six flags it was made of (rules R28, R30). -/
theorem Cpu.setP_pbyte (c d : Cpu) (b : Bool) :
    c.setP (d.pbyte b) = { c with n := d.n, v := d.v, d := d.d, i := d.i, z := d.z, c := d.c } := by
  obtain ⟨hn, hv, -, -, hd, hi, hz, hc⟩ := pbyte_bits d b
  simp only [Cpu.setP, bit, hn, hv, hd, hi, hz, hc]

/-- Settles O16: the two bytes RTS pulls are those JSR pushed, the address before the next instruction. -/
theorem rtsReturnsFromJsr : Obligations.RtsReturnsFromJsr := by
  unfold Obligations.RtsReturnsFromJsr
  intro w s t b hs hwf hjsr hb hsp hbytes
  rw [exec_jsr, stack_write_word hs] at hjsr
  cases hjsr
  simp only [withCpu_cpu, withCpu_ram, cell_toNat] at hsp hbytes
  have hone : s.cpu.s - 2 + 1 = s.cpu.s - 1 := by ring
  have htwo : s.cpu.s - 2 + 2 = s.cpu.s := by ring
  have hlow := hbytes 1 (.inl rfl)
  have hhigh := hbytes 2 (.inr rfl)
  rw [hone, read_pushedWord_low hwf] at hlow
  rw [htwo, read_pushedWord_high hwf] at hhigh
  rw [exec_rts_stackIsRam hb, hsp, hone, htwo, hlow, hhigh, hilo_split, sub_add_cancel]

/-- Settles O18: the three bytes RTI pulls are those the entry pushed, the status and the interrupted `PC`. -/
theorem rtiReturnsFromInterrupt : Obligations.RtiReturnsFromInterrupt := by
  unfold Obligations.RtiReturnsFromInterrupt
  intro vector s b hs hwf t hb hsp hbytes
  obtain ⟨target, hcpu⟩ := interruptEntry_cpu s vector
  simp only [t, hcpu, interruptEntry_ram hs, cell_toNat] at hsp hbytes
  have hone : s.cpu.s - 3 + 1 = s.cpu.s - 2 := by ring
  have htwo : s.cpu.s - 3 + 2 = s.cpu.s - 1 := by ring
  have hthree : s.cpu.s - 3 + 3 = s.cpu.s := by ring
  have hstatus := hbytes 1 (.inl rfl)
  have hlow := hbytes 2 (.inr (.inl rfl))
  have hhigh := hbytes 3 (.inr (.inr rfl))
  rw [hone, read_pushedFrame_status hwf] at hstatus
  rw [htwo, read_pushedFrame_other hwf (by simp), read_pushedWord_low hwf] at hlow
  rw [hthree, read_pushedFrame_other hwf (ne_sub_of_ne_zero (by decide)), read_pushedWord_high hwf] at hhigh
  rw [exec_rti_stackIsRam hb, hsp, hone, htwo, hthree, hstatus, hlow, hhigh, hilo_split, Cpu.setP_pbyte]

/-! ### Branches (rules R131, R230 to R240) -/

/-- The branch has its opcode byte and runs the branch shape under its condition, which does not look at the
countdown. -/
structure BranchRow (p : (Byte → Instr) × Byte × (Cpu → Bool)) (d : Byte) : Prop where
  opcode_eq : opcode (p.1 d) = p.2.1
  exec_eq : ∀ s, exec (p.1 d) s = .next (runBranch 2 d p.2.2 s)
  cond_wait : ∀ (c : Cpu) (n : Nat), p.2.2 { c with waitCycles := n } = p.2.2 c

theorem branches_run (d : Byte) : ∀ p ∈ branches, BranchRow p d := by
  simp only [branches, List.forall_mem_cons, List.not_mem_nil, false_imp_iff, implies_true, and_true]
  and_intros
  all_goals exact ⟨rfl, fun _ => rfl, fun _ _ => rfl⟩

/-- Settles O19: every branch runs `runBranch`, whose target and page test are stated on integers. -/
theorem branchesBranch : Obligations.BranchesBranch := by
  unfold Obligations.BranchesBranch
  intro p hp d s
  obtain ⟨hopcode, hexec, hcond⟩ := branches_run d p hp
  refine ⟨hopcode, ?_⟩
  intro target
  have htarget : branchTarget s d = target := add_sext16 d s.cpu.pc
  rw [hexec, runBranch_eq 2 (by decide), hcond, htarget, page_bne]
  by_cases hsame : target.toNat / 256 = s.cpu.pc.toNat / 256 <;> simp [hsame]

/-! ### Flag instructions (rules R241 to R248) -/

/-- Settles O20: each runs as an implied form of two cycles. -/
theorem flagInstructionsSetFlags : Obligations.FlagInstructionsSetFlags := by
  unfold Obligations.FlagInstructionsSetFlags
  refine ⟨?_, ?_, ?_, ?_, ?_, ?_, ?_, ?_⟩
  all_goals exact registers_of_runImplied rfl (fun _ => rfl) fun _ => rfl

end Sys2Proof.Machine
end

section
/-! PROOFS. The unofficial opcodes (spec/44_unofficial.md) that no family above has: the NOPs, and the read-modify-write
forms that go on to compute with the byte they wrote.  These reuse the byte functions, the adder and the comparator of
the official instructions, so only what the second half starts from is new: the carry that the first half left. -/

namespace Sys2Proof.Machine

open Sys2Proof.Claims

/-! ### NOPs (rule R261) -/

theorem nopRows_read (d : Byte) (w : Word) : ∀ r ∈ nopRows d w, ReadRow (fun _ c => c) r := by
  simp only [nopRows, List.forall_mem_cons, List.not_mem_nil, false_imp_iff, implies_true, and_true]
  and_intros
  all_goals exact ⟨rfl, Nat.succ_pos _, fun _ => rfl⟩

/-- Settles O21: the implied forms run as implied forms of two cycles and the others as read forms, all under the
function that leaves the registers alone. -/
theorem unofficialNopsReadAndDiscard : Obligations.UnofficialNopsReadAndDiscard := by
  unfold Obligations.UnofficialNopsReadAndDiscard
  refine ⟨?_, ?_, ?_, ?_, ?_, ?_, reads_of_rows nopRows_read fun _ _ => rfl⟩
  all_goals exact registers_of_runImplied rfl (fun _ => rfl) fun _ => rfl

/-! ### The rows of the read-modify-write forms (rules R265 to R271) -/

/-- Every form of the family runs as a read-modify-write form: the byte function of an official mnemonic, then what the
registers become with the byte written. -/
theorem unofficialRmwRows_modify :
    (∀ d w, ∀ r ∈ sloRows d w, ModifyRow Cpu.asl (fun v c => c.loadA (c.a ||| v)) r) ∧
    (∀ d w, ∀ r ∈ rlaRows d w, ModifyRow Cpu.rol (fun v c => c.loadA (c.a &&& v)) r) ∧
    (∀ d w, ∀ r ∈ sreRows d w, ModifyRow Cpu.lsr (fun v c => c.loadA (c.a ^^^ v)) r) ∧
    (∀ d w, ∀ r ∈ rraRows d w, ModifyRow Cpu.ror (fun v c => c.addWithCarry v) r) ∧
    (∀ d w, ∀ r ∈ dcpRows d w, ModifyRow Cpu.dec (fun v c => c.compare c.a v) r) ∧
    (∀ d w, ∀ r ∈ isbRows d w, ModifyRow Cpu.inc (fun v c => c.subWithBorrow v) r) := by
  simp only [sloRows, rlaRows, sreRows, rraRows, dcpRows, isbRows, sevenModes, List.forall_mem_cons, List.not_mem_nil,
    false_imp_iff, implies_true, and_true]
  and_intros
  all_goals
    intros
    and_intros
  all_goals exact ⟨rfl, fun _ => rfl⟩

/-! ### SLO, RLA and SRE (rules R266 to R268) -/

/-- Loading `A` after a shift: C is the bit shifted out, Z and N are those of the byte loaded. -/
theorem loadA_shiftedOut_eq_shiftFlags (c : Cpu) (shiftedOut : Bool) (v : Byte) :
    ({ c with c := shiftedOut } : Cpu).loadA v = shiftFlags { c with a := v } shiftedOut v := rfl

/-- Every form writes the shifted byte `out` and loads `A` with `op` of `A` and that byte, where each row runs as a
read-modify-write form under a shift `f` that touches only `C`. -/
theorem modifies_of_shiftAndCombineRows {rows : Byte → Word → List Row} {f : Byte → Cpu → Byte × Cpu}
    {op : Byte → Byte → Byte} {out : Byte → Cpu → Byte} {shiftedOut : Byte → Bool}
    (h : ∀ d w, ∀ r ∈ rows d w, ModifyRow f (fun v c => c.loadA (op c.a v)) r) (hout : ∀ m c, (f m c).1 = out m c)
    (hwait : ∀ m c n, out m { c with waitCycles := n } = out m c)
    (hflags : ∀ m c, (f m c).2 = { c with c := shiftedOut m }) :
    Modifies rows out fun m r c => shiftFlags { c with a := op c.a r } (shiftedOut m) (op c.a r) :=
  modifies_of_rows h hout hwait fun m r c => by
    rw [hflags]
    exact loadA_shiftedOut_eq_shiftFlags c (shiftedOut m) (op c.a r)

/-- Settles O22: each mnemonic is the shift or rotation of its official one, then a load of `A` combined with the byte
written. -/
theorem sloRlaSreShiftAndCombine : Obligations.SloRlaSreShiftAndCombine := by
  unfold Obligations.SloRlaSreShiftAndCombine
  obtain ⟨hslo, hrla, hsre, -⟩ := unofficialRmwRows_modify
  exact ⟨modifies_of_shiftAndCombineRows hslo Cpu.asl_fst_eq_double (fun _ _ _ => rfl) Cpu.asl_snd,
    modifies_of_shiftAndCombineRows hrla Cpu.rol_fst_eq_double_add_carry (fun _ _ _ => rfl) Cpu.rol_snd,
    modifies_of_shiftAndCombineRows hsre Cpu.lsr_fst_eq_half (fun _ _ _ => rfl) Cpu.lsr_snd⟩

/-! ### RRA, DCP and ISB (rules R269 to R271) -/

/-- The adder after a right rotation starts from the bit rotated out (rule R269). -/
theorem addWithCarry_after_ror (m r : Byte) (c : Cpu) :
    (Cpu.ror m c).2.addWithCarry r = addInts { c with c := m.getLsbD 0 } r := by
  rw [Cpu.ror_snd, Cpu.addWithCarry_eq_addInts]
  rfl

/-- The comparator after a decrement sees the registers from before (rule R270). -/
theorem compare_after_dec (m r : Byte) (c : Cpu) :
    (Cpu.dec m c).2.compare (Cpu.dec m c).2.a r = compareInts c c.a r := by
  rw [Cpu.dec_snd, Cpu.compare_eq_compareInts]

/-- The subtraction after an increment starts from the carry from before (rule R271). -/
theorem subWithBorrow_after_inc (m r : Byte) (c : Cpu) : (Cpu.inc m c).2.subWithBorrow r = subInts c r := by
  rw [Cpu.inc_snd, Cpu.subWithBorrow_eq_subInts]

/-- Settles O23: each mnemonic is the byte function of ROR, DEC or INC, then the adder, the comparator or the
subtraction on the registers that function leaves. -/
theorem rraDcpIsbModifyAndCompute : Obligations.RraDcpIsbModifyAndCompute := by
  unfold Obligations.RraDcpIsbModifyAndCompute
  obtain ⟨-, -, -, hrra, hdcp, hisb⟩ := unofficialRmwRows_modify
  exact ⟨modifies_of_rows hrra Cpu.ror_fst_eq_half_add_carry (fun _ _ _ => rfl) addWithCarry_after_ror,
    modifies_of_rows hdcp Cpu.dec_fst_eq_add_255 (fun _ _ _ => rfl) compare_after_dec,
    modifies_of_rows hisb Cpu.inc_fst_eq_succ (fun _ _ _ => rfl) subWithBorrow_after_inc⟩

end Sys2Proof.Machine
end

section
/-! PROOFS. Interrupt entry, and what a PPU tick does around the picture (spec/60_exceptions.md).  The entry is the
handler's equation with its bytes and addresses on integers.  The tick is taken apart by what each of its outputs
depends on: the start of vblank for the CPU and `vblank`, the scanline hook for the cartridge, the cursor's advance for
the cursor; the rest is `TickFrame`. -/

namespace Sys2Proof.Machine

open Sys2Proof.Claims

/-! ### Interrupt entry (rule R303) -/

/-- Settles O29: the handler's three pushes and vector reads on integers, then `B` cleared and the countdown set. -/
theorem interruptEntrySequence : Obligations.InterruptEntrySequence := by
  unfold Obligations.InterruptEntrySequence
  intro s vector pc t next
  have hpc : s.cpu.pc.toNat = pc % 65536 := (Nat.mod_eq_of_lt s.cpu.pc.isLt).symm
  rw [interruptEntry, enterHandler_eq, highByte_eq hpc, lowByte_eq hpc]
  simp only [hilo_eq, stackAddr_eq_cell]
  rfl

/-! ### The start of vblank (rules R402, R404) -/

/-- Unless the status port was read in the tick before, `vblank` is set and the NMI latch takes bit 7 of `ctrl`. -/
theorem vblankStart_unread {s : State} (h : s.ppu.statusReadLastTick = false) :
    (vblankStart s).ppu.vblank = true ∧
      (vblankStart s).cpu = { s.cpu with nmiLatch := s.cpu.nmiLatch || s.ppu.ctrl.getLsbD 7 } := by
  rw [vblankStart, h]
  exact ⟨rfl, rfl⟩

/-- A status read in the tick before suppresses the start of vblank. -/
theorem vblankStart_raced {s : State} (h : s.ppu.statusReadLastTick = true) : vblankStart s = s := by
  rw [vblankStart, if_pos h]

/-- At (241, 1) the CPU and `vblank` are those the start of vblank leaves, from the state in which the tick begins. -/
theorem ppuTick_at_vblankDot {s : State} (hline : s.ppu.scanline = 241) (hcycle : s.ppu.cycle = 1) :
    (ppuTick s).cpu = (vblankStart (tickStart s)).cpu ∧
      (ppuTick s).ppu.vblank = (vblankStart (tickStart s)).ppu.vblank := by
  have hpart : vblankPart (tickStart s) = vblankStart (tickStart s) := by
    unfold vblankPart
    rw [(tickStart_ppu s).1]
    exact if_pos ⟨hline, hcycle⟩
  rw [ppuTick_elsewhere (by omega), hpart]
  exact ⟨rfl, (advanceCursor_other _).1⟩

/-- At every other dot a tick leaves the CPU alone, and `vblank` but for the clear of the pre-render line. -/
theorem ppuTick_off_vblankDot {s : State} (h : ¬ (s.ppu.scanline = 241 ∧ s.ppu.cycle = 1)) :
    (ppuTick s).cpu = s.cpu ∧
      (ppuTick s).ppu.vblank = (s.ppu.vblank && !decide (s.ppu.scanline = -1 ∧ s.ppu.cycle = 1)) := by
  obtain ⟨hppu, hcpu⟩ := tickStart_ppu s
  by_cases hrender : -1 ≤ s.ppu.scanline ∧ s.ppu.scanline ≤ 239
  · obtain ⟨-, hpixelCpu, -, hpixelPpu⟩ := pixelPart_frame (renderLine (tickStart s))
    rw [ppuTick_renderable hrender]
    constructor
    · exact hpixelCpu.trans ((renderLine_frame _).cpu.trans hcpu)
    · have hvblank := renderLine_vblank (tickStart s)
      rw [hppu] at hvblank
      rw [(advanceCursor_other _).1, hpixelPpu]
      exact hvblank
  · have hpart : vblankPart (tickStart s) = tickStart s := by
      unfold vblankPart
      rw [hppu]
      exact if_neg h
    have hclear : ¬ (s.ppu.scanline = -1 ∧ s.ppu.cycle = 1) := by omega
    rw [ppuTick_elsewhere hrender, hpart]
    refine ⟨hcpu, ?_⟩
    rw [(advanceCursor_other _).1, hppu, decide_eq_false hclear, Bool.not_false, Bool.and_true]
    rfl

/-- The race flags move on at every tick (rule R404). -/
theorem ppuTick_raceFlags (s : State) :
    (ppuTick s).ppu.statusReadLastTick = s.ppu.statusReadThisTick ∧
      (ppuTick s).ppu.statusReadThisTick = false := by
  obtain ⟨p, hp, hframe⟩ := renderPart_frame (tickStart s)
  have hflags : p.statusReadLastTick = s.ppu.statusReadThisTick ∧ p.statusReadThisTick = false := by
    rw [(tickStart_ppu s).1] at hp
    rcases hp with rfl | rfl
    · exact ⟨rfl, rfl⟩
    · rcases oddFrameSkip_cases (moveRaceFlags s.ppu) with ⟨e, -⟩ | e <;> rw [e] <;> exact ⟨rfl, rfl⟩
  obtain ⟨-, hlast, hthis⟩ := advanceCursor_other (pixelPart (vblankPart (renderPart (tickStart s)))).ppu
  rw [ppuTick_eq, hlast, hthis, (pixelPart_frame _).2.2.2, (vblankPart_frame _).2.2.2]
  exact ⟨hframe.readLast.trans hflags.1, hframe.readThis.trans hflags.2⟩

/-! ### The cartridge and the cursor (rules R306, R400, R401) -/

/-- The cartridge hears of the scanline from the ticks that find cycle 0. -/
theorem ppuTick_cart_eq (s : State) :
    (ppuTick s).cart =
      if s.ppu.cycle = 0 then s.cart.onScanline s.ppu.scanline (layersOn s.ppu) else s.cart := by
  rw [ppuTick_cart, tickStart, scanlineHook, apply_ite State.cart]
  rfl

/-- The cycle after the odd-frame skip is the dot acted on. -/
theorem oddFrameSkip_cycle (p : Ppu) : (oddFrameSkip p).cycle = dot p := by
  rw [oddFrameSkip, apply_ite Ppu.cycle]
  rfl

/-- The cursor's advance with its two wraps and the parity toggle. -/
theorem advanceCursor_eq (p : Ppu) :
    advanceCursor p =
      { p with
        cycle := if 340 ≤ p.cycle then 0 else p.cycle + 1
        scanline := if 340 ≤ p.cycle then (if 260 ≤ p.scanline then -1 else p.scanline + 1) else p.scanline
        oddFrame := p.oddFrame != (decide (340 ≤ p.cycle) && decide (260 ≤ p.scanline)) } := by
  have hlast : p.cycle + 1 > Config.lastCycle ↔ 340 ≤ p.cycle := Nat.lt_succ_iff
  have hbottom : p.scanline + 1 > Config.lastScanline ↔ 260 ≤ p.scanline := Int.lt_add_one_iff
  unfold advanceCursor
  by_cases hc : 340 ≤ p.cycle <;> by_cases hs : 260 ≤ p.scanline <;> simp [hlast, hbottom, hc, hs]

/-- Settles O46: the CPU and `vblank` by the dot of vblank, the cartridge by the hook, the cursor by its advance from
the dot acted on, everything else by `ppuTick_frame`. -/
theorem vblankAndNmiRequest : Obligations.VblankAndNmiRequest := by
  unfold Obligations.VblankAndNmiRequest
  intro s t
  obtain ⟨hppu, hcpu⟩ := tickStart_ppu s
  have hflag : (tickStart s).ppu.statusReadLastTick = s.ppu.statusReadThisTick := by
    rw [hppu]
    rfl
  obtain ⟨hlast, hthis⟩ := ppuTick_raceFlags s
  refine ⟨?requested, ?raced, ppuTick_off_vblankDot, hlast, hthis, ppuTick_cart_eq s, ?cursor, ?frame⟩
  case requested =>
    intro hline hcycle hread
    obtain ⟨htickCpu, htickVblank⟩ := ppuTick_at_vblankDot hline hcycle
    obtain ⟨hvblank, hnmi⟩ := vblankStart_unread (hflag.trans hread)
    rw [hppu, hcpu] at hnmi
    exact ⟨htickVblank.trans hvblank, htickCpu.trans hnmi⟩
  case raced =>
    intro hline hcycle hread
    obtain ⟨htickCpu, htickVblank⟩ := ppuTick_at_vblankDot hline hcycle
    rw [vblankStart_raced (hflag.trans hread), hppu] at htickVblank
    rw [vblankStart_raced (hflag.trans hread), hcpu] at htickCpu
    exact ⟨htickVblank, htickCpu⟩
  case cursor =>
    intro wraps last
    obtain ⟨q, hq, hqcycle, hqline, hqodd⟩ := ppuTick_cursor s
    rw [oddFrameSkip_cycle] at hqcycle
    simp only [t, wraps, last, hq, advanceCursor_eq, hqcycle, hqline, hqodd, decide_eq_true_eq, and_self]
  case frame =>
    obtain ⟨hram, hdma, hpad0, hpad1, hapu, hmaster, hcyc, hcfg, hsound, hoam, hnametable, hpalette, hctrl, hmask,
      htram, hfineX, hlatch, hbuffer, hoamAddr⟩ := ppuTick_frame s
    simp only [t, ← hram, ← hdma, ← hpad0, ← hpad1, ← hapu, ← hmaster, ← hcyc, ← hcfg, ← hsound, ← hoam,
      ← hnametable, ← hpalette, ← hctrl, ← hmask, ← htram, ← hfineX, ← hlatch, ← hbuffer, ← hoamAddr]

end Sys2Proof.Machine
end

section
/-! PROOFS. The clock, the OAM DMA unit, the controllers and the host's inputs (spec/61_clock_dma.md,
spec/70_reset_and_hazards.md section 1).  A transfer is taken as pairs of ticks, a read and a write, on the states that
differ from its start in OAM, the DMA unit and `cyc`; a controller's reads as shifts of its register. -/

namespace Sys2Proof.Machine

open Sys2Proof.Claims

/-! ### The master tick (rule R341) -/

/-- What follows the CPU or DMA part: an APU step on every sixth tick, the poll, the counter. -/
theorem finishTick_eq (s : State) :
    finishTick s =
      let x := if s.master % 6 = 0 then { s with apu := s.apu.step, sound := some s.apu.step.sample } else s
      { x with
        cpu :=
          { x.cpu with
            irqLatch := x.cpu.irqLatch || x.cart.irqPending || (x.cfg.frameIrqWired && x.apu.frameIrq) }
        master := s.master + 1 } := by
  unfold finishTick apuPart Config.apuDiv
  split <;> rfl

/-- The PPU part changes neither counter. -/
theorem ppuPart_counters (s : State) : (ppuPart s).master = s.master ∧ (ppuPart s).cyc = s.cyc := by
  unfold ppuPart
  split
  · exact ⟨(ppuTick_frame s).master, (ppuTick_frame s).cyc⟩
  · exact ⟨rfl, rfl⟩

/-- The CPU or DMA part leaves `master` alone. -/
theorem cpuPart_master {s t : State} (h : cpuPart s = .next t) : t.master = s.master := by
  rcases cpuPart_next h with ⟨-, rfl⟩ | ⟨-, -, rfl⟩ | ⟨-, -, u, hu, rfl⟩
  · rfl
  · exact (dmaStep_frame s).1.master
  · exact (cpuTick_writeFrame hu).master

/-- Settles O41: the parts of the tick by `masterTick_next` and `cpuPart_next`, the two counters carried through. -/
theorem masterTickOrder : Obligations.MasterTickOrder := by
  unfold Obligations.MasterTickOrder
  intro s t h
  obtain ⟨v, hv, rfl⟩ := masterTick_next h
  obtain ⟨hmaster, hcyc⟩ := ppuPart_counters s
  have hparts := cpuPart_next hv
  rw [hmaster] at hparts
  refine ⟨ppuPart s, v, rfl, ?idle, ?dma, ?cpu, ?finish⟩
  case idle =>
    intro hoff
    rcases hparts with ⟨-, hvu⟩ | ⟨hon, -⟩ | ⟨hon, -⟩
    · exact hvu
    · exact absurd hon hoff
    · exact absurd hon hoff
  case dma =>
    intro hon htransfer
    rcases hparts with ⟨hoff, -⟩ | ⟨-, -, rfl⟩ | ⟨-, hnone, -⟩
    · exact absurd hon hoff
    · obtain ⟨hwrite, hcpu, -⟩ := dmaStep_frame (ppuPart s)
      rw [hwrite.cyc, hcyc]
      exact ⟨rfl, hcpu⟩
    · rw [htransfer] at hnone
      cases hnone
  case cpu =>
    intro hon hnone
    rcases hparts with ⟨hoff, -⟩ | ⟨-, htransfer, -⟩ | ⟨-, -, w, hw, rfl⟩
    · exact absurd hon hoff
    · rw [hnone] at htransfer
      cases htransfer
    · exact ⟨w, hw, by rw [(cpuTick_writeFrame hw).cyc, hcyc]⟩
  case finish => rw [finishTick_eq, (cpuPart_master hv).trans hmaster]

/-! ### The DMA unit (rules R344 to R346) -/

/-- Runs of ticks follow one another. -/
theorem dmaTicks_add (m n : Nat) (s : State) : dmaTicks (m + n) s = dmaTicks n (dmaTicks m s) := by
  induction m generalizing s with
  | zero => rw [Nat.zero_add, dmaTicks]
  | succ m ih => rw [Nat.succ_add, dmaTicks, dmaTicks, ih]

/-- The alignment step: the first step of a transfer, on an odd `cyc`. -/
theorem dmaStep_align {s : State} (hdummy : s.dma.dummy = true) (hodd : s.cyc % 2 = 1) :
    dmaStep s = { s with dma := { s.dma with dummy := false } } :=
  if_pos ⟨hdummy, hodd⟩

/-- On an even `cyc` a step reads, the first step of a transfer included. -/
theorem dmaStep_even {s : State} (heven : s.cyc % 2 = 0) :
    dmaStep s = dmaRead { s with dma := { s.dma with dummy := false } } := by
  rw [dmaStep, if_neg (by omega), if_pos heven]

/-- On an odd `cyc` a step that need not align writes. -/
theorem dmaStep_odd {s : State} (hdummy : s.dma.dummy = false) (hodd : s.cyc % 2 = 1) :
    dmaStep s = dmaWrite { s with dma := { s.dma with dummy := false } } := by
  rw [dmaStep, if_neg (by simp [hdummy]), if_neg (by omega)]

/-- A read of a declined work RAM address puts that byte into the data register and changes nothing else. -/
theorem dmaRead_workRam {s : State} (hdeclined : s.cart.cpuTryRead (hilo s.dma.page s.dma.addr) = none)
    (haddr : (hilo s.dma.page s.dma.addr).toNat < 0x2000) :
    dmaRead s =
      { s with dma := { s.dma with data := s.ram.read (ramIndex (hilo s.dma.page s.dma.addr)) } } := by
  rw [dmaRead, memRead_workRam hdeclined haddr]

/-- The states during a transfer from `s`: only OAM, the DMA unit and `cyc` have changed. -/
def State.duringDma (s : State) (oam : Memory) (d : Dma) (cyc : Nat) : State :=
  { s with ppu := { s.ppu with oam := oam }, dma := d, cyc := cyc }

/-- The DMA unit once the byte `v` has been written: the address one higher, the transfer over at a wrap. -/
def Dma.afterByte (d : Dma) (v : Byte) : Dma :=
  if d.addr + 1 = 0 then { d with addr := d.addr + 1, data := v, transfer := false, dummy := true }
  else { d with addr := d.addr + 1, data := v, dummy := false }

theorem Dma.afterByte_page (d : Dma) (v : Byte) : (d.afterByte v).page = d.page := by
  unfold afterByte
  split <;> rfl

theorem Dma.afterByte_addr (d : Dma) (v : Byte) : (d.afterByte v).addr = d.addr + 1 := by
  unfold afterByte
  split <;> rfl

/-- A read and a write from an even `cyc`: the byte of work RAM at the unit's address is copied to OAM. -/
theorem dmaTicks_two (s : State) {oam : Memory} {d : Dma} {cyc : Nat} {v : Byte} (heven : cyc % 2 = 0)
    (hdeclined : s.cart.cpuTryRead (hilo d.page d.addr) = none) (haddr : (hilo d.page d.addr).toNat < 0x2000)
    (hv : v = s.ram.read (ramIndex (hilo d.page d.addr))) :
    dmaTicks 2 (s.duringDma oam d cyc) =
      s.duringDma (oam.write d.addr.toNat v) (d.afterByte v) (cyc + 2) := by
  have hread : dmaStep (s.duringDma oam d cyc) = s.duringDma oam { d with data := v, dummy := false } cyc := by
    rw [hv]
    exact (dmaStep_even heven).trans (dmaRead_workRam hdeclined haddr)
  have hwrite : dmaStep (s.duringDma oam { d with data := v, dummy := false } (cyc + 1)) =
      s.duringDma (oam.write d.addr.toNat v) (d.afterByte v) (cyc + 1) := by
    have hodd : (cyc + 1) % 2 = 1 := by omega
    rw [dmaStep_odd (s := s.duringDma oam { d with data := v, dummy := false } (cyc + 1)) rfl hodd]
    rfl
  calc dmaTicks 2 (s.duringDma oam d cyc)
      = dmaTicks 1 (s.duringDma oam { d with data := v, dummy := false } (cyc + 1)) := by
        rw [dmaTicks, hread]
        rfl
    _ = s.duringDma (oam.write d.addr.toNat v) (d.afterByte v) (cyc + 2) := by
        rw [dmaTicks, hwrite]
        rfl

/-- `k` bytes of a transfer from `s` have been copied: what OAM and the DMA unit then hold. -/
structure BytesCopied (s : State) (k : Nat) (oam : Memory) (d : Dma) : Prop where
  page : d.page = s.dma.page
  addr : d.addr = BitVec.ofNat 8 k
  oamWf : oam.wf Config.oamSize = true
  copied : ∀ j < k, oam.read j = s.ram.read ((s.dma.page.toNat * 256 + j) % 2048)

/-- Two ticks copy the next byte. -/
theorem BytesCopied.next {s : State} {k : Nat} {oam : Memory} {d : Dma} (h : BytesCopied s k oam d) (hk : k < 256)
    (v : Byte) (hv : v = s.ram.read ((s.dma.page.toNat * 256 + k) % 2048)) :
    BytesCopied s (k + 1) (oam.write d.addr.toNat v) (d.afterByte v) where
  page := (d.afterByte_page v).trans h.page
  addr := by
    rw [d.afterByte_addr v, h.addr, BitVec.ofNat_add]
    rfl
  oamWf := Memory.wf_write h.oamWf d.addr.isLt v
  copied := by
    intro j hj
    have haddr : d.addr.toNat = k := by rw [h.addr, BitVec.toNat_ofNat, Nat.mod_eq_of_lt hk]
    rw [haddr, Memory.read_write h.oamWf]
    by_cases hjk : j = k
    · rw [if_pos hjk, hjk, hv]
    · rw [if_neg hjk, h.copied j (by omega)]

/-- From an even `cyc`, `2k` ticks of a transfer from a declined page of work RAM copy its first `k` bytes. -/
theorem dmaTicks_copy {s : State} (hpage : s.dma.page.toNat < 0x20)
    (hdeclined : ∀ k : Byte, s.cart.cpuTryRead (s.dma.page ++ k) = none) {oam : Memory} {d : Dma} {cyc : Nat}
    (heven : cyc % 2 = 0) (h : BytesCopied s 0 oam d) {k : Nat} (hk : k ≤ 256) :
    ∃ oam' d', dmaTicks (2 * k) (s.duringDma oam d cyc) = s.duringDma oam' d' (cyc + 2 * k) ∧
      BytesCopied s k oam' d' := by
  induction k with
  | zero => exact ⟨oam, d, rfl, h⟩
  | succ k ih =>
    obtain ⟨oam', d', hrun, hcopied⟩ := ih (by omega)
    have haddr : (hilo d'.page d'.addr).toNat = s.dma.page.toNat * 256 + k := by
      rw [hilo_toNat, hcopied.page, hcopied.addr, BitVec.toNat_ofNat, Nat.mod_eq_of_lt hk]
    have hbyte : s.cart.cpuTryRead (hilo d'.page d'.addr) = none := by
      rw [hcopied.page]
      exact hdeclined d'.addr
    refine ⟨_, _, ?_, hcopied.next hk (s.ram.read (ramIndex (hilo d'.page d'.addr))) ?_⟩
    · rw [Nat.mul_succ, dmaTicks_add, hrun]
      exact dmaTicks_two s (by omega) hbyte (by omega) rfl
    · rw [ramIndex, haddr]
      rfl

/-- After the alignment tick of an odd `cyc` the pairs of ticks begin, on an even `cyc` and with nothing copied. -/
theorem dmaTicks_align {s : State} (hdummy : s.dma.dummy = true) (haddr : s.dma.addr = 0)
    (hoam : s.ppu.oam.wf Config.oamSize = true) :
    ∃ d cyc, dmaTicks (s.cyc % 2) s = s.duringDma s.ppu.oam d cyc ∧ cyc % 2 = 0 ∧
      BytesCopied s 0 s.ppu.oam d := by
  have hnone : ∀ j < 0, s.ppu.oam.read j = s.ram.read ((s.dma.page.toNat * 256 + j) % 2048) := by omega
  rcases Nat.mod_two_eq_zero_or_one s.cyc with heven | hodd
  · rw [heven]
    exact ⟨s.dma, s.cyc, rfl, heven, rfl, haddr, hoam, hnone⟩
  · refine ⟨{ s.dma with dummy := false }, s.cyc + 1, ?_, by omega, rfl, haddr, hoam, hnone⟩
    rw [hodd, dmaTicks, dmaStep_align hdummy hodd]
    rfl

/-- Settles O39: the alignment tick if there is one, then 256 pairs of ticks, each copying one byte. -/
theorem dmaCopiesPage : Obligations.DmaCopiesPage := by
  unfold Obligations.DmaCopiesPage
  intro s _ hdummy haddr hpage hoam hdeclined t
  obtain ⟨d, cyc, halign, heven, hstart⟩ := dmaTicks_align hdummy haddr hoam
  obtain ⟨oam, d', hrun, hcopied⟩ := dmaTicks_copy hpage hdeclined heven hstart (le_refl 256)
  have ht : t = s.duringDma oam d' (cyc + 2 * 256) := by
    simp only [t]
    rw [Nat.add_comm, dmaTicks_add, halign]
    exact hrun
  rw [ht]
  exact ⟨hcopied.copied, rfl⟩

/-! ### The controllers (rules R350, R351) -/

/-- The address at which controller 0 or 1 is read. -/
def padPort : Bool → Word
  | false => 0x4016
  | true => 0x4017

/-- Controller 0 or 1. -/
def State.pad (s : State) : Bool → Pad
  | false => s.pad0
  | true => s.pad1

/-- The state with controller 0 or 1 replaced. -/
def State.withPad (s : State) (p : Pad) : Bool → State
  | false => { s with pad0 := p }
  | true => { s with pad1 := p }

@[simp] theorem withPad_cart (s : State) (p : Pad) (k : Bool) : (s.withPad p k).cart = s.cart := by cases k <;> rfl

@[simp] theorem withPad_pad_same (s : State) (p : Pad) (k : Bool) : (s.withPad p k).pad k = p := by cases k <;> rfl

@[simp] theorem withPad_pad_other (s : State) (p : Pad) (k : Bool) : (s.withPad p !k).pad k = s.pad k := by
  cases k <;> rfl

@[simp] theorem withPad_self (s : State) (k : Bool) : s.withPad (s.pad k) k = s := by cases k <;> rfl

@[simp] theorem withPad_withPad (s : State) (p q : Pad) (k : Bool) : (s.withPad p k).withPad q k = s.withPad q k := by
  cases k <;> rfl

/-- A controller after `n` reads. -/
def Pad.shifted (p : Pad) (n : Nat) : Pad := { p with shift := p.shift <<< n }

@[simp] theorem Pad.shifted_zero (p : Pad) : p.shifted 0 = p := by rw [shifted, BitVec.shiftLeft_zero]

/-- One read, then `n` more. -/
theorem Pad.afterRead_shifted (p : Pad) (n : Nat) : p.afterRead.shifted n = p.shifted (n + 1) := by
  simp only [afterRead, shifted, ← BitVec.shiftLeft_add, Nat.add_comm]

/-- The byte read is the register's high bit as a number. -/
theorem Pad.value_eq (p : Pad) : p.value = if bit p.shift 7 = true then 1 else 0 := by
  rw [value]
  cases bit p.shift 7 <;> rfl

/-- What a read returns after `n` reads: bit `7 - n`, and 0 once the eight bits are out. -/
theorem Pad.shifted_value (p : Pad) (n : Nat) :
    (p.shifted n).value = if n < 8 ∧ p.shift.getLsbD (7 - n) = true then 1 else 0 := by
  have hbit : bit (p.shifted n).shift 7 = (decide (n < 8) && p.shift.getLsbD (7 - n)) := by
    have hin : (!decide (7 < n)) = decide (n < 8) := by
      rw [← decide_not]
      exact decide_eq_decide.2 (by omega)
    rw [bit, shifted, BitVec.getLsbD_shiftLeft, hin]
    rfl
  simp only [value_eq, hbit, Bool.and_eq_true, decide_eq_true_eq]

/-- A read of a controller's port that the cartridge declines: one bit, and the register shifted. -/
theorem memRead_padPort {s : State} {k : Bool} (h : s.cart.cpuTryRead (padPort k) = none) :
    memRead s (padPort k) = ((s.pad k).value, s.withPad (s.pad k).afterRead k) := by
  rw [memRead_declined h]
  cases k <;> rfl

/-- Reads of one controller only shift its register. -/
theorem afterReads_padPort {s : State} {k : Bool} (h : s.cart.cpuTryRead (padPort k) = none) (n : Nat) :
    afterReads (padPort k) n s = s.withPad ((s.pad k).shifted n) k := by
  induction n generalizing s with
  | zero => simp [afterReads]
  | succ n ih =>
    rw [afterReads, memRead_padPort h, ih (by simpa using h)]
    simp [Pad.afterRead_shifted]

/-- The values of reads of one controller are the values of its register's shifts. -/
theorem readsOf_padPort {s : State} {k : Bool} (h : s.cart.cpuTryRead (padPort k) = none) (n : Nat) :
    readsOf (padPort k) n s = (List.range n).map fun j => ((s.pad k).shifted j).value := by
  induction n generalizing s with
  | zero => rfl
  | succ n ih =>
    rw [readsOf, memRead_padPort h, ih (by simpa using h), List.range_succ_eq_map]
    simp [Pad.afterRead_shifted]

/-- After `m` reads of the other controller, a controller's reads give its shift register serially, high bit first. -/
theorem readsOf_padPort_afterOther {s : State} {k : Bool} (h : s.cart.cpuTryRead (padPort k) = none)
    (hother : s.cart.cpuTryRead (padPort !k) = none) (n m : Nat) :
    readsOf (padPort k) n (afterReads (padPort !k) m s) =
      (List.range n).map fun j => if j < 8 ∧ (s.pad k).shift.getLsbD (7 - j) = true then 1 else 0 := by
  rw [afterReads_padPort hother, readsOf_padPort (by simpa using h)]
  simp [Pad.shifted_value]

/-- Settles O40: both writes are the console bus's; the latched registers are read by `readsOf_padPort_afterOther`. -/
theorem dmaTriggerAndControllers : Obligations.DmaTriggerAndControllers := by
  unfold Obligations.DmaTriggerAndControllers
  intro s v
  constructor
  · intro hwrite
    exact memWrite_declined hwrite
  · intro hwrite hread0 hread1
    rw [memWrite_declined hwrite]
    let latched := consoleWrite s 0x4016 v
    exact ⟨rfl, fun n k => ⟨readsOf_padPort_afterOther (s := latched) (k := false) hread0 hread1 n k,
      readsOf_padPort_afterOther (s := latched) (k := true) hread1 hread0 n k⟩⟩

/-! ### The host's inputs (rules R349, R353, R502) -/

/-- A reset request: what every reset does, then by `WarmResetEffect` also `S - 3` and `I` (rule R502). -/
theorem resetProcedure_eq (s : State) :
    resetProcedure s =
      let hw := s.cfg.warmReset = .hardware6502
      let t := resetVectorOnly s
      t.withCpu { t.cpu with s := if hw then t.cpu.s - 3 else t.cpu.s, i := if hw then true else t.cpu.i } := by
  have hcfg : (resetVectorOnly s).cfg = s.cfg :=
    ((readEffects_frame s 0xFFFC).trans (readEffects_frame _ _)).cfg
  unfold resetProcedure
  simp only [hcfg]
  cases s.cfg.warmReset <;> rfl

/-- Settles O56: the reset request by `resetProcedure_eq` and `resetVectorOnly_eq`; the other two by definition. -/
theorem resetRequest : Obligations.ResetRequest := by
  unfold Obligations.ResetRequest
  intro s lo s1 hi s2 hw
  refine ⟨?reset, fun _ _ => rfl, fun _ => rfl⟩
  case reset =>
    rw [hostInput, resetProcedure_eq, resetVectorOnly_eq]
    rfl

end Sys2Proof.Machine
end

section
/-! PROOFS. The CPU-visible PPU ports (spec/62_ppu.md section 1).  An access that the cartridge declines goes to the
port `a mod 8`; what a port does to the scroll registers is read bit by bit from the fields it replaces. -/

namespace Sys2Proof.Machine

open Sys2Proof.Claims

/-! ### The scroll register with one field replaced (rule R47) -/

theorem withCoarseX_getLsbD (r : Scroll) (v : BitVec 5) {k : Nat} (hk : k < 15) :
    (withCoarseX r v).getLsbD k = if k < 5 then v.getLsbD k else r.getLsbD k := by
  simp only [withCoarseX, mkScroll_getLsbD, coarseY_getLsbD, ntX_getLsbD, ntY_getLsbD, fineY_getLsbD]
  interval_cases k <;> simp

theorem withCoarseY_getLsbD (r : Scroll) (v : BitVec 5) {k : Nat} (hk : k < 15) :
    (withCoarseY r v).getLsbD k = if 5 ≤ k ∧ k < 10 then v.getLsbD (k - 5) else r.getLsbD k := by
  simp only [withCoarseY, mkScroll_getLsbD, coarseX_getLsbD, ntX_getLsbD, ntY_getLsbD, fineY_getLsbD]
  interval_cases k <;> simp

theorem withNtX_getLsbD (r : Scroll) (v : BitVec 1) {k : Nat} (hk : k < 15) :
    (withNtX r v).getLsbD k = if k = 10 then v.getLsbD 0 else r.getLsbD k := by
  simp only [withNtX, mkScroll_getLsbD, coarseX_getLsbD, coarseY_getLsbD, ntY_getLsbD, fineY_getLsbD]
  interval_cases k <;> simp

theorem withNtY_getLsbD (r : Scroll) (v : BitVec 1) {k : Nat} (hk : k < 15) :
    (withNtY r v).getLsbD k = if k = 11 then v.getLsbD 0 else r.getLsbD k := by
  simp only [withNtY, mkScroll_getLsbD, coarseX_getLsbD, coarseY_getLsbD, ntX_getLsbD, fineY_getLsbD]
  interval_cases k <;> simp

theorem withFineY_getLsbD (r : Scroll) (v : BitVec 3) {k : Nat} (hk : k < 15) :
    (withFineY r v).getLsbD k = if 12 ≤ k then v.getLsbD (k - 12) else r.getLsbD k := by
  simp only [withFineY, mkScroll_getLsbD, coarseX_getLsbD, coarseY_getLsbD, ntX_getLsbD, ntY_getLsbD]
  interval_cases k <;> simp

/-! ### From a CPU address to a port (rules R75, R77) -/

/-- A CPU address of the ports, at any mirror. -/
def IsPort (a : Word) : Prop := 0x2000 ≤ a.toNat ∧ a.toNat < 0x4000

/-- A write there that the cartridge declines is a write to the port `a mod 8`. -/
theorem memWrite_port {s : State} {a : Word} {v : Byte} (ha : IsPort a) (hdeclined : s.cart.cpuWrite a v = none) :
    memWrite s a v = portWrite s (a.toNat % 8) v := by
  rw [memWrite_declined hdeclined, consoleWrite, if_neg (Nat.not_lt.2 ha.1), if_pos ha.2]

/-- A read there that the cartridge declines is a read of the port `a mod 8`. -/
theorem memRead_port {s : State} {a : Word} (ha : IsPort a) (hdeclined : s.cart.cpuTryRead a = none) :
    memRead s a = ((portTryRead s (a.toNat % 8)).getD 0, portReadEffects s (a.toNat % 8)) := by
  rw [memRead_declined hdeclined, consoleTryRead, consoleReadEffects, if_neg (Nat.not_lt.2 ha.1), if_pos ha.2,
    if_neg (Nat.not_lt.2 ha.1), if_pos ha.2]

/-! ### The ports that are written (rules R381 to R386) -/

/-- Port 0: `ctrl`, and its low two bits in bits 10 and 11 of the shadow scroll register (rule R381). -/
theorem writePpuCtrl_spec (p : Ppu) (v : Byte) : ∃ tr : Scroll,
    writePpuCtrl p v = { p with ctrl := v, tramAddr := tr } ∧
      ∀ k < 15, tr.getLsbD k =
        if k = 10 then v.getLsbD 0 else if k = 11 then v.getLsbD 1 else p.tramAddr.getLsbD k := by
  refine ⟨_, rfl, fun k hk => ?_⟩
  rw [withNtY_getLsbD _ _ hk, withNtX_getLsbD _ _ hk]
  by_cases h10 : k = 10
  · simp [h10, ctrlNtX]
  · simp [h10, ctrlNtY]

/-- Port 5, first write: fine X and coarse X (rule R385). -/
theorem writeScroll_first {p : Ppu} (hlatch : p.addrLatch = false) (v : Byte) : ∃ tr : Scroll,
    writeScroll p v = { p with tramAddr := tr, fineX := BitVec.ofNat 3 v.toNat, addrLatch := true } ∧
      ∀ k < 15, tr.getLsbD k = if k < 5 then v.getLsbD (k + 3) else p.tramAddr.getLsbD k := by
  have hfine : v.extractLsb' 0 3 = BitVec.ofNat 3 v.toNat := BitVec.eq_of_toNat_eq (by simp)
  refine ⟨withCoarseX p.tramAddr (v.extractLsb' 3 5), ?_, fun k hk => ?_⟩
  · simp only [writeScroll, hlatch, hfine, Bool.false_eq_true, if_false]
  · rw [withCoarseX_getLsbD _ _ hk]
    split
    · simp [Nat.add_comm, *]
    · rfl

/-- Port 5, second write: fine Y and coarse Y (rule R385). -/
theorem writeScroll_second {p : Ppu} (hlatch : p.addrLatch = true) (v : Byte) : ∃ tr : Scroll,
    writeScroll p v = { p with tramAddr := tr, addrLatch := false } ∧
      ∀ k < 15, tr.getLsbD k =
        if 12 ≤ k then v.getLsbD (k - 12)
        else if 5 ≤ k ∧ k < 10 then v.getLsbD (k - 2) else p.tramAddr.getLsbD k := by
  refine ⟨withCoarseY (withFineY p.tramAddr (v.extractLsb' 0 3)) (v.extractLsb' 3 5), ?_, fun k hk => ?_⟩
  · simp only [writeScroll, hlatch, if_true]
  · rw [withCoarseY_getLsbD _ _ hk, withFineY_getLsbD _ _ hk]
    by_cases hfine : 12 ≤ k
    · simp [hfine, show ¬ k < 10 by omega, show k - 12 < 3 by omega]
    · by_cases hcoarse : 5 ≤ k ∧ k < 10
      · simp [hfine, hcoarse, show k - 5 < 5 by omega, show 3 + (k - 5) = k - 2 by omega]
      · simp [hfine, hcoarse]

/-- Port 6, first write: bits 8 to 13, and bit 14 cleared (rule R386). -/
theorem writeAddr_first {p : Ppu} (hlatch : p.addrLatch = false) (v : Byte) : ∃ tr : Scroll,
    writeAddr p v = { p with tramAddr := tr, addrLatch := true } ∧
      ∀ k < 15, tr.getLsbD k =
        if k = 14 then false else if 8 ≤ k then v.getLsbD (k - 8) else p.tramAddr.getLsbD k := by
  refine ⟨(0#1 ++ v.extractLsb' 0 6 : BitVec 7) ++ p.tramAddr.extractLsb' 0 8, ?_, fun k hk => ?_⟩
  · simp only [writeAddr, hlatch, Bool.false_eq_true, if_false]
  · simp only [BitVec.getLsbD_append]
    interval_cases k <;> simp

/-- Port 6, second write: bits 0 to 7, and the whole register copied (rule R386). -/
theorem writeAddr_second {p : Ppu} (hlatch : p.addrLatch = true) (v : Byte) : ∃ tr : Scroll,
    writeAddr p v = { p with tramAddr := tr, vramAddr := tr, addrLatch := false } ∧
      ∀ k < 15, tr.getLsbD k = if k < 8 then v.getLsbD k else p.tramAddr.getLsbD k := by
  refine ⟨p.tramAddr.extractLsb' 8 7 ++ v, ?_, fun k hk => ?_⟩
  · simp only [writeAddr, hlatch, if_true]
  · rw [BitVec.getLsbD_append]
    by_cases hlow : k < 8
    · simp [hlow]
    · simp [hlow, show k - 8 < 7 by omega, show 8 + (k - 8) = k by omega]

/-- Settles O42: each port by what its write does to the PPU, ports 5 and 6 by the write toggle. -/
theorem ppuPortWrites : Obligations.PpuPortWrites := by
  unfold Obligations.PpuPortWrites
  intro s a v hlow hhigh hdeclined p t
  have ht : t = portWrite s (a.toNat % 8) v := memWrite_port ⟨hlow, hhigh⟩ hdeclined
  clear_value t
  refine ⟨?control, ?mask, ?status, ?oamAddr, ?oamData, ?oamRead, ?scroll, ?addr⟩
  case control =>
    intro hport
    obtain ⟨tr, hwrite, hbits⟩ := writePpuCtrl_spec s.ppu v
    rw [ht, hport, portWrite, hwrite]
    exact ⟨tr, rfl, hbits⟩
  case mask | status | oamAddr | oamData =>
    intro hport
    rw [ht, hport]
    rfl
  case oamRead =>
    intro hport hread
    rw [memRead_port ⟨hlow, hhigh⟩ hread, hport]
    rfl
  case scroll =>
    intro hport
    rw [ht, hport, portWrite]
    cases hlatch : p.addrLatch with
    | false =>
      obtain ⟨tr, hwrite, hbits⟩ := writeScroll_first hlatch v
      rw [hwrite]
      exact ⟨tr, _, rfl, fun _ => ⟨rfl, hbits⟩, fun h => nomatch h⟩
    | true =>
      obtain ⟨tr, hwrite, hbits⟩ := writeScroll_second hlatch v
      rw [hwrite]
      exact ⟨tr, p.fineX, rfl, fun h => (nomatch h), fun _ => ⟨rfl, hbits⟩⟩
  case addr =>
    intro hport
    rw [ht, hport, portWrite]
    cases hlatch : p.addrLatch with
    | false =>
      obtain ⟨tr, hwrite, hbits⟩ := writeAddr_first hlatch v
      rw [hwrite]
      exact ⟨tr, fun _ => ⟨rfl, hbits⟩, fun h => nomatch h⟩
    | true =>
      obtain ⟨tr, hwrite, hbits⟩ := writeAddr_second hlatch v
      rw [hwrite]
      exact ⟨tr, fun h => (nomatch h), fun _ => ⟨rfl, hbits⟩⟩

/-! ### The status port (rule R388) -/

/-- The status byte bit by bit. -/
theorem statusByte_getLsbD (p : Ppu) :
    (statusByte p).getLsbD 7 = p.vblank ∧ (statusByte p).getLsbD 6 = p.spr0Hit ∧
      (statusByte p).getLsbD 5 = p.sprOverflow ∧ ∀ k < 5, (statusByte p).getLsbD k = p.dataBuffer.getLsbD k := by
  simp only [statusByte, BitVec.getLsbD_append]
  refine ⟨by simp, by simp, by simp, fun k hk => by simp [hk]⟩

/-- Settles O43: the read is the status byte before the clear; the second read is the first one of the state it
leaves. -/
theorem statusPortRead : Obligations.StatusPortRead := by
  unfold Obligations.StatusPortRead
  intro s a hlow hhigh hport hdeclined first second
  have hread (u : State) (hu : u.cart.cpuTryRead a = none) :
      memRead u a = (statusByte u.ppu,
        { u with ppu := { u.ppu with vblank := false, addrLatch := false, statusReadThisTick := true } }) := by
    rw [memRead_port ⟨hlow, hhigh⟩ hu, hport]
    rfl
  have hfirst : first = _ := hread s hdeclined
  have hsecond : second = _ := hread first.2 (by rw [hfirst]; exact hdeclined)
  clear_value first second
  subst hfirst hsecond
  obtain ⟨hvblank, hhit, hoverflow, hbuffer⟩ := statusByte_getLsbD s.ppu
  obtain ⟨hvblank', hhit', hoverflow', hbuffer'⟩ := statusByte_getLsbD
    { s.ppu with vblank := false, addrLatch := false, statusReadThisTick := true }
  refine ⟨hvblank, hhit, hoverflow, hbuffer, rfl, hvblank', fun k hk => ?_, rfl, fun v hwrite => ?_⟩
  · rcases (by omega : k = 6 ∨ k = 5 ∨ k < 5) with rfl | rfl | hk
    · exact hhit'.trans hhit.symm
    · exact hoverflow'.trans hoverflow.symm
    · exact (hbuffer' k hk).trans (hbuffer k hk).symm
  · rw [memWrite_port ⟨hlow, hhigh⟩ hwrite, hport]
    rfl

/-! ### The data port (rules R387, R389) -/

/-- The address of port 7 on integers. -/
theorem vramBusAddr_eq (p : Ppu) : vramBusAddr p = BitVec.ofNat 14 p.vramAddr.toNat :=
  BitVec.eq_of_toNat_eq (by simp [vramBusAddr])

/-- The move of `vram_addr` on integers. -/
theorem add_vramIncrement (p : Ppu) :
    p.vramAddr + vramIncrement p = BitVec.ofNat 15 (p.vramAddr.toNat + if p.ctrl.getLsbD 2 then 32 else 1) := by
  apply BitVec.eq_of_toNat_eq
  rw [vramIncrement, inc32, bit, BitVec.toNat_add, BitVec.toNat_ofNat]
  split <;> rfl

/-- A PPU bus write leaves the port registers alone. -/
theorem ppuWrite_portRegisters (s : State) (a : PpuAddr) (v : Byte) :
    (ppuWrite s a v).ppu.vramAddr = s.ppu.vramAddr ∧ (ppuWrite s a v).ppu.ctrl = s.ppu.ctrl := by
  rcases ppuWrite_cases s a v with ⟨c, -, h⟩ | ⟨-, ⟨-, h⟩ | ⟨-, -, h⟩ | ⟨-, h⟩⟩ <;> rw [h] <;> exact ⟨rfl, rfl⟩

/-- A read of port 7 that the cartridge declines. -/
theorem memRead_dataPort {s : State} {a : Word} (ha : IsPort a) (hport : a.toNat % 8 = 7)
    (hdeclined : s.cart.cpuTryRead a = none) :
    memRead s a =
      (if 0x3F00 ≤ (vramBusAddr s.ppu).toNat then ppuRead s (vramBusAddr s.ppu) else s.ppu.dataBuffer,
        { s with
          ppu :=
            { s.ppu with
              dataBuffer := ppuRead s (vramBusAddr s.ppu)
              vramAddr := s.ppu.vramAddr + vramIncrement s.ppu } }) := by
  rw [memRead_port ha hdeclined, hport]
  rfl

/-- Settles O44: the read by `memRead_dataPort`, twice; the write moves the address that the PPU bus leaves alone. -/
theorem dataPortAccess : Obligations.DataPortAccess := by
  unfold Obligations.DataPortAccess
  intro s a v hlow hhigh hport hread hwrite inc at14 moved first
  have haddr : vramBusAddr s.ppu = at14 := vramBusAddr_eq s.ppu
  have hmoved : s.ppu.vramAddr + vramIncrement s.ppu = moved := add_vramIncrement s.ppu
  have hfirst : first = _ := memRead_dataPort ⟨hlow, hhigh⟩ hport hread
  have hread' : first.2.cart.cpuTryRead a = none := by
    rw [hfirst]
    exact hread
  have hsecond := memRead_dataPort ⟨hlow, hhigh⟩ hport hread'
  rw [haddr, hmoved] at hfirst
  clear_value first
  subst hfirst
  refine ⟨rfl, rfl, fun hbelow => ?second, ?write⟩
  case second =>
    rw [hsecond]
    refine if_neg ?_
    rw [vramBusAddr_eq, BitVec.toNat_ofNat]
    exact Nat.not_le.2 hbelow
  case write =>
    obtain ⟨hvram, hctrl⟩ := ppuWrite_portRegisters s at14 v
    have hinc : (ppuWrite s at14 v).ppu.vramAddr + vramIncrement (ppuWrite s at14 v).ppu = moved := by
      rw [← hmoved, vramIncrement, hvram, hctrl, vramIncrement]
    rw [memWrite_port ⟨hlow, hhigh⟩ hwrite, hport, portWrite]
    simp only [haddr, hinc]

end Sys2Proof.Machine
end

section
/-! PROOFS. Sprites (spec/62_ppu.md section 5).  Evaluation keeps the first eight of a filtered list; shifting and
fetching act on each lane by itself. -/

namespace Sys2Proof.Machine

open Sys2Proof.Claims

/-! ### Evaluation (rule R420) -/

/-- The entries among `ns` whose rows cover the line, in order. -/
def entriesInRange (oam : Memory) (line : Int) (h : Nat) (ns : List Nat) : List Nat :=
  ns.filter fun n => inRange line h (oam.read (4 * n))

/-- The scan keeps the first entries in range until the buffer holds eight; one more sets the overflow. -/
theorem evaluateFrom_eq (oam : Memory) (line : Int) (h : Nat) (ns : List Nat) (e : Evaluation)
    (he : e.sprites.length ≤ 8) :
    evaluateFrom oam line h ns e =
      let hits := entriesInRange oam line h ns
      let kept := hits.take (8 - e.sprites.length)
      ⟨e.sprites ++ kept.map (oamEntry oam), e.zero || kept.contains 0,
        e.overflow || decide (8 < e.sprites.length + hits.length)⟩ := by
  induction ns generalizing e with
  | nil => simp [evaluateFrom, entriesInRange, Nat.not_lt.2 he]
  | cons n ns ih =>
    rw [evaluateFrom]
    by_cases hn : inRange line h (oam.read (4 * n)) = true
    · have hcons : entriesInRange oam line h (n :: ns) = n :: entriesInRange oam line h ns :=
        List.filter_cons_of_pos hn
      rw [if_pos hn, hcons]
      have hmax : Config.maxSprites = 8 := rfl
      by_cases hroom : e.sprites.length < Config.maxSprites
      · obtain ⟨k, hk⟩ : ∃ k, 8 - e.sprites.length = k + 1 := ⟨7 - e.sprites.length, by omega⟩
        have hlength : (e.sprites ++ [oamEntry oam n]).length = e.sprites.length + 1 := List.length_append
        have hnext : 8 - (e.sprites.length + 1) = k := by omega
        have hzero : (n == 0) = (0 == n) := BEq.comm
        rw [if_pos hroom, ih _ (by rw [hlength]; omega)]
        simp only [hlength, hk, hnext, hzero, List.take_succ_cons, List.map_cons, List.append_assoc,
          List.singleton_append, List.contains_cons, List.length_cons, Bool.or_assoc, Nat.add_assoc, Nat.add_comm 1]
      · have hfull : e.sprites.length = 8 := by omega
        rw [if_neg hroom]
        simp [hfull]
    · have hcons : entriesInRange oam line h (n :: ns) = entriesInRange oam line h ns :=
        List.filter_cons_of_neg hn
      rw [if_neg hn, hcons, ih e he]

/-- Entry 0 is among the first entries in range if it is in range at all. -/
theorem zero_mem_take_entriesInRange (oam : Memory) (line : Int) (h : Nat) :
    ((entriesInRange oam line h (List.range 64)).take 8).contains 0 = inRange line h (oam.read 0) := by
  cases hzero : inRange line h (oam.read 0) with
  | true => simp [entriesInRange, List.range_succ_eq_map, hzero]
  | false =>
    rw [← Bool.not_eq_true, List.contains_iff_mem]
    intro hmem
    have hin := (List.mem_filter.1 (List.mem_of_mem_take hmem)).2
    rw [hzero] at hin
    cases hin

/-- An evaluation selects the first eight entries in range, and notes whether entry 0 is one and whether there are
more. -/
theorem spriteEvaluation_eq (p : Ppu) :
    spriteEvaluation p =
      let hits := entriesInRange p.oam p.scanline (spriteHeight p.ctrl) (List.range 64)
      { p with
        sprites := (hits.take 8).map (oamEntry p.oam)
        sprZeroSelected := inRange p.scanline (spriteHeight p.ctrl) (p.oam.read 0)
        sprOverflow := p.sprOverflow || decide (8 < hits.length) } := by
  rw [spriteEvaluation, evaluateFrom_eq _ _ _ _ _ (Nat.zero_le _), ← zero_mem_take_entriesInRange]
  simp only [List.length_nil, List.nil_append, Nat.sub_zero, Nat.zero_add, Bool.false_or]

/-! ### Shifting (rule R422) -/

/-- A selected sprite after its X is counted down, stopping at 0. -/
def Sprite.countedDown (sp : Sprite) : Sprite := { sp with x := BitVec.ofNat 8 (sp.x.toNat - 1) }

/-- A lane after the shift, if the sprite of the same place has its X at 0. -/
def Lane.shiftedFor (o : Option Sprite) (l : Lane) : Lane :=
  if o.any (·.x == 0) then ⟨l.lo <<< 1, l.hi <<< 1⟩ else l

theorem Sprite.countedDown_of_zero {sp : Sprite} (h : sp.x = 0) : sp.countedDown = sp := by
  rw [countedDown, h]
  obtain ⟨y, tile, attr, x⟩ := sp
  exact congrArg (Sprite.mk y tile attr) h.symm

theorem Sprite.countedDown_of_ne_zero {sp : Sprite} (h : sp.x ≠ 0) : sp.countedDown = { sp with x := sp.x - 1 } := by
  have hx : BitVec.ofNat 8 (sp.x.toNat - 1) = sp.x - 1 := by
    apply BitVec.eq_of_toNat_eq
    have hpos : sp.x.toNat ≠ 0 := fun hz => h (BitVec.eq_of_toNat_eq hz)
    have := sp.x.isLt
    have hone : (1 : Byte).toNat = 1 := rfl
    rw [BitVec.toNat_sub, BitVec.toNat_ofNat, hone]
    omega
  rw [countedDown, hx]

/-- One sprite and its lane: counted down, or, at 0, the lane shifted. -/
theorem shiftLanes_cons (sp : Sprite) (sps : List Sprite) (l : Lane) (ls : List Lane) :
    shiftLanes (sp :: sps) (l :: ls) =
      (sp.countedDown :: (shiftLanes sps ls).1, l.shiftedFor (some sp) :: (shiftLanes sps ls).2) := by
  rw [shiftLanes]
  by_cases hx : sp.x = 0
  · have hdone : (sp.x != 0) = false := bne_eq_false_iff_eq.2 hx
    have hshift : (some sp).any (·.x == 0) = true := beq_iff_eq.2 hx
    simp only [hdone, Lane.shiftedFor, hshift, Sprite.countedDown_of_zero hx, Bool.false_eq_true, if_false, if_true]
  · have hmore : (sp.x != 0) = true := bne_iff_ne.2 hx
    have hshift : (some sp).any (·.x == 0) = false := beq_eq_false_iff_ne.2 hx
    simp only [hmore, Lane.shiftedFor, hshift, Sprite.countedDown_of_ne_zero hx, Bool.false_eq_true, if_false, if_true]

/-- Where every selected sprite has a lane, each is counted down. -/
theorem shiftLanes_fst (sps : List Sprite) (ls : List Lane) (h : sps.length ≤ ls.length) :
    (shiftLanes sps ls).1 = sps.map Sprite.countedDown := by
  induction sps generalizing ls with
  | nil => rfl
  | cons sp sps ih =>
    cases ls with
    | nil => simp at h
    | cons l ls =>
      rw [shiftLanes_cons, List.map_cons, ih ls (Nat.le_of_succ_le_succ h)]

/-- Each lane is shifted for the sprite of its place. -/
theorem shiftLanes_snd_getElem? (sps : List Sprite) (ls : List Lane) (k : Nat) :
    (shiftLanes sps ls).2[k]? = ls[k]?.map (Lane.shiftedFor sps[k]?) := by
  induction sps generalizing ls k with
  | nil => cases h : ls[k]? <;> simp [shiftLanes, h, Lane.shiftedFor]
  | cons sp sps ih =>
    cases ls with
    | nil => rfl
    | cons l ls =>
      rw [shiftLanes_cons]
      cases k with
      | zero => rfl
      | succ k => exact ih ls k

/-! ### Fetching (rule R421) -/

/-- The lanes of the selected sprites are replaced, the others kept. -/
theorem fetched_getElem? (f : Sprite → Lane) (sps : List Sprite) (ls : List Lane) (h : sps.length ≤ ls.length)
    (k : Nat) : (sps.map f ++ ls.drop sps.length)[k]? = ls[k]?.map fun l => sps[k]?.elim l f := by
  rw [List.getElem?_append, List.length_map]
  split
  · rename_i hk
    rw [List.getElem?_map, List.getElem?_eq_getElem hk, List.getElem?_eq_getElem (Nat.lt_of_lt_of_le hk h)]
    rfl
  · rename_i hk
    rw [List.getElem?_drop, Nat.add_sub_cancel' (Nat.not_lt.1 hk), List.getElem?_eq_none (Nat.not_lt.1 hk)]
    exact Option.map_id'.symm

/-- The bits of a byte in reverse order. -/
theorem bitReverse8_getLsbD (v : Byte) {j : Nat} (hj : j < 8) : (bitReverse8 v).getLsbD j = v.getLsbD (7 - j) := by
  simp only [bitReverse8, bit, BitVec.getLsbD_append]
  interval_cases j <;> simp

/-- A one-bit field as a number. -/
theorem extract_one_toNat {n : Nat} (v : BitVec n) (k : Nat) :
    (v.extractLsb' k 1).toNat = (v.getLsbD k).toNat := by
  rw [BitVec.extractLsb'_toNat, BitVec.getLsbD, Nat.toNat_testBit, Nat.shiftRight_eq_div_pow, Nat.pow_one]

/-- A tile number with bit 0 cleared. -/
theorem and_FE_toNat (v : Byte) : (v &&& 0xFE).toNat = v.toNat / 2 * 2 :=
  (by decide : ∀ v : Byte, (v &&& 0xFE).toNat = v.toNat / 2 * 2) v

theorem spriteHeight_eq (ctrl : Byte) : (spriteHeight ctrl : Int) = if ctrl.getLsbD 5 then 16 else 8 := by
  rw [spriteHeight, spr16, bit]
  split <;> rfl

/-- The address of a sprite's low pattern byte on integers (log entry 14). -/
theorem spritePatternAddr_eq (p : Ppu) (sp : Sprite) :
    spritePatternAddr p.ctrl sp (spriteRow p.ctrl p.scanline sp) = BitVec.ofInt 14 (spriteRowAddr p sp) := by
  simp only [spriteRowAddr, spriteRow, ← spriteHeight_eq, bit]
  rw [spritePatternAddr, spr16, bit]
  by_cases htall : p.ctrl.getLsbD 5 = true
  · rw [if_pos htall, if_pos htall, and_FE_toNat]
    push_cast
    rfl
  · have htable : (sprTable p.ctrl).toNat * 0x1000 = if p.ctrl.getLsbD 3 then 4096 else 0 := by
      rw [sprTable, extract_one_toNat]
      cases p.ctrl.getLsbD 3 <;> rfl
    rw [if_neg htall, if_neg htall, htable]
    push_cast
    rfl

/-- A lane fetched, bit by bit: the two planes of the row, flipped by attribute bit 6. -/
theorem fetchLane_getLsbD (s : State) (sp : Sprite) {j : Nat} (hj : j < 8) :
    let lo := ppuRead s (BitVec.ofInt 14 (spriteRowAddr s.ppu sp))
    let hi := ppuRead s (BitVec.ofInt 14 (spriteRowAddr s.ppu sp + 8))
    let src := if sp.attr.getLsbD 6 then 7 - j else j
    (fetchLane s sp).lo.getLsbD j = lo.getLsbD src ∧ (fetchLane s sp).hi.getLsbD j = hi.getLsbD src := by
  have hhigh : BitVec.ofInt 14 (spriteRowAddr s.ppu sp) + 8 = BitVec.ofInt 14 (spriteRowAddr s.ppu sp + 8) := by
    rw [BitVec.ofInt_add]
    rfl
  unfold fetchLane
  simp only [spritePatternAddr_eq, hhigh, bit]
  by_cases hflip : sp.attr.getLsbD 6 = true
  · simp only [if_pos hflip, bitReverse8_getLsbD _ hj, and_self]
  · simp only [if_neg hflip, and_self]

end Sys2Proof.Machine
end

section
/-! PROOFS. The parts of a PPU tick on a renderable line as record updates (spec/62_ppu.md rules R400 to R422), and the
whole tick as the line's work with the cursor moved on.  The obligations about scrolling, sprites and the picture read
their fields from these equations. -/

namespace Sys2Proof.Machine

open Sys2Proof.Claims

/-- A shift register of the background shifted, then loaded, each if due (rules R405, R412). -/
def shiftAndLoad (shift load : Bool) (r : Word) (low : Byte) : Word :=
  let shifted := if shift then r <<< 1 else r
  if load then hilo (page shifted) low else shifted

/-! ### The parts of a line -/

/-- The frame's clear, at cycle 1 of the pre-render line (rule R402). -/
theorem clearPart_ppu (s : State) :
    (clearPart s).ppu =
      let clears := decide (s.ppu.scanline = -1 ∧ s.ppu.cycle = 1)
      { s.ppu with
        vblank := s.ppu.vblank && !clears
        spr0Hit := s.ppu.spr0Hit && !clears
        sprOverflow := s.ppu.sprOverflow && !clears
        lanes := if clears then s.ppu.lanes.map fun _ => ⟨0, 0⟩ else s.ppu.lanes } := by
  unfold clearPart
  split
  · rename_i h
    simp [frameStartClear, h]
  · rename_i h
    simp [h]

/-- A scroll update with rendering enabled or not (rule R403). -/
theorem whenRendering_eq (p : Ppu) (f : Ppu → Scroll) :
    whenRendering p f = { p with vramAddr := if layersOn p then f p else p.vramAddr } := by
  rw [whenRendering, show rendering p = layersOn p from rfl]
  cases layersOn p <;> rfl

theorem incrementYPart_ppu (s : State) :
    (incrementYPart s).ppu =
      { s.ppu with
        vramAddr :=
          if s.ppu.cycle = 256 then (if layersOn s.ppu then incrementY s.ppu.vramAddr else s.ppu.vramAddr)
          else s.ppu.vramAddr } := by
  by_cases h : s.ppu.cycle = 256
  · simp only [incrementYPart, if_pos h, whenRendering_eq]
  · simp only [incrementYPart, if_neg h]

theorem transferXPart_ppu (s : State) :
    (transferXPart s).ppu =
      let p := s.ppu
      let loads := decide (p.cycle = 257)
      { p with
        bgPatLo := shiftAndLoad false loads p.bgPatLo p.nextTileLsb
        bgPatHi := shiftAndLoad false loads p.bgPatHi p.nextTileMsb
        bgAttrLo := shiftAndLoad false loads p.bgAttrLo (spreadBit (bit p.nextTileAttr 0))
        bgAttrHi := shiftAndLoad false loads p.bgAttrHi (spreadBit (bit p.nextTileAttr 1))
        vramAddr :=
          if p.cycle = 257 then (if layersOn p then transferX p.vramAddr p.tramAddr else p.vramAddr)
          else p.vramAddr } := by
  by_cases h : s.ppu.cycle = 257
  · simp only [transferXPart, if_pos h, decide_eq_true h, whenRendering_eq]
    rfl
  · simp only [transferXPart, if_neg h, decide_eq_false h]
    rfl

theorem transferYPart_ppu (s : State) :
    (transferYPart s).ppu =
      { s.ppu with
        vramAddr :=
          if s.ppu.scanline = -1 ∧ 280 ≤ s.ppu.cycle ∧ s.ppu.cycle ≤ 304 then
            (if layersOn s.ppu then transferY s.ppu.vramAddr s.ppu.tramAddr else s.ppu.vramAddr)
          else s.ppu.vramAddr } := by
  by_cases h : s.ppu.scanline = -1 ∧ 280 ≤ s.ppu.cycle ∧ s.ppu.cycle ≤ 304
  · simp only [transferYPart, if_pos h, whenRendering_eq]
  · simp only [transferYPart, if_neg h]

theorem evaluationPart_ppu (s : State) :
    (evaluationPart s).ppu =
      let p := s.ppu
      let evaluates := decide (0 ≤ p.scanline ∧ p.cycle = 257)
      let hits := entriesInRange p.oam p.scanline (spriteHeight p.ctrl) (List.range 64)
      { p with
        sprites := if evaluates then (hits.take 8).map (oamEntry p.oam) else p.sprites
        sprZeroSelected :=
          if evaluates then inRange p.scanline (spriteHeight p.ctrl) (p.oam.read 0) else p.sprZeroSelected
        sprOverflow := p.sprOverflow || (evaluates && decide (8 < hits.length)) } := by
  by_cases h : 0 ≤ s.ppu.scanline ∧ s.ppu.cycle = 257
  · simp only [evaluationPart, if_pos h, decide_eq_true h, spriteEvaluation_eq, if_true, Bool.true_and]
  · simp only [evaluationPart, if_neg h, decide_eq_false h, Bool.false_eq_true, if_false, Bool.false_and, Bool.or_false]

theorem fetchPart_ppu (s : State) :
    (fetchPart s).ppu =
      { s.ppu with
        lanes :=
          if 0 ≤ s.ppu.scanline ∧ s.ppu.cycle = 340 then
            s.ppu.sprites.map (fetchLane s) ++ s.ppu.lanes.drop s.ppu.sprites.length
          else s.ppu.lanes } := by
  by_cases h : 0 ≤ s.ppu.scanline ∧ s.ppu.cycle = 340
  · simp only [fetchPart, if_pos h, spriteFetch, List.length_map]
  · simp only [fetchPart, if_neg h]

/-! ### The pipeline -/

/-- The cycle does the pipeline's phase `k` (rules R406 to R410). -/
def phaseAt (s : State) (k : Nat) : Bool := inPipeline s.cfg s.ppu.cycle && decide ((s.ppu.cycle - 1) % 8 = k)

/-- The selected sprites are counted down and their lanes shifted at this cycle (rule R422). -/
def countsSprites (mask : Byte) (cycle : Nat) : Bool := mask.getLsbD 4 && decide (2 ≤ cycle ∧ cycle ≤ 257)

theorem shiftBackground_eq (p : Ppu) :
    shiftBackground p =
      let on := p.mask.getLsbD 3
      { p with
        bgPatLo := shiftAndLoad on false p.bgPatLo p.nextTileLsb
        bgPatHi := shiftAndLoad on false p.bgPatHi p.nextTileMsb
        bgAttrLo := shiftAndLoad on false p.bgAttrLo (spreadBit (bit p.nextTileAttr 0))
        bgAttrHi := shiftAndLoad on false p.bgAttrHi (spreadBit (bit p.nextTileAttr 1)) } := by
  rw [shiftBackground, bgEn, bit]
  cases p.mask.getLsbD 3 <;> rfl

theorem shiftSprites_eq (p : Ppu) :
    shiftSprites p =
      { p with
        sprites := if countsSprites p.mask p.cycle then (shiftLanes p.sprites p.lanes).1 else p.sprites
        lanes := if countsSprites p.mask p.cycle then (shiftLanes p.sprites p.lanes).2 else p.lanes } := by
  rw [shiftSprites, countsSprites, sprEn, bit]
  by_cases h : 2 ≤ p.cycle ∧ p.cycle ≤ 257 <;> cases p.mask.getLsbD 4 <;> simp [h]

/-- The pipeline's cycles include all those that count sprites. -/
theorem inPipeline_of_countsSprites {s : State} (h : countsSprites s.ppu.mask s.ppu.cycle = true) :
    inPipeline s.cfg s.ppu.cycle = true := by
  simp only [countsSprites, Bool.and_eq_true, decide_eq_true_eq] at h
  simp only [inPipeline, Bool.or_eq_true, Bool.and_eq_true, decide_eq_true_eq]
  cases s.cfg.bgPipeStart
  · have : BgPipeStart.one.toNat = 1 := rfl
    omega
  · have : BgPipeStart.two.toNat = 2 := rfl
    omega

/-- What the phase `k` does to the PPU (rules R406 to R410). -/
theorem bgPhase_ppu (s : State) (k : Nat) :
    (bgPhase s k).ppu =
      let p := s.ppu
      let v := p.vramAddr
      let row := fineY v
      { p with
        bgPatLo := shiftAndLoad false (k = 0) p.bgPatLo p.nextTileLsb
        bgPatHi := shiftAndLoad false (k = 0) p.bgPatHi p.nextTileMsb
        bgAttrLo := shiftAndLoad false (k = 0) p.bgAttrLo (spreadBit (bit p.nextTileAttr 0))
        bgAttrHi := shiftAndLoad false (k = 0) p.bgAttrHi (spreadBit (bit p.nextTileAttr 1))
        nextTileId := if k = 0 then ppuRead s (tileIdAddr v) else p.nextTileId
        nextTileAttr := if k = 2 then attributeQuadrant v (ppuRead s (attributeAddr v)) else p.nextTileAttr
        nextTileLsb := if k = 4 then ppuRead s (patternAddr p.ctrl p.nextTileId row false) else p.nextTileLsb
        nextTileMsb := if k = 6 then ppuRead s (patternAddr p.ctrl p.nextTileId row true) else p.nextTileMsb
        vramAddr := if k = 7 then (if layersOn p then incrementX v else v) else v } := by
  unfold bgPhase
  split
  case h_5 => rw [whenRendering_eq]; rfl
  case h_6 h0 h2 h4 h6 h7 =>
    simp only [if_neg h0, if_neg h2, if_neg h4, if_neg h6, if_neg h7, decide_eq_false h0]
    rfl
  all_goals rfl

/-- The pipeline of a tick: the shift, then the phase (rule R403). -/
theorem pipelinePart_ppu (s : State) :
    (pipelinePart s).ppu =
      let p := s.ppu
      let shifts := inPipeline s.cfg p.cycle && p.mask.getLsbD 3
      let v := p.vramAddr
      let row := fineY v
      { p with
        bgPatLo := shiftAndLoad shifts (phaseAt s 0) p.bgPatLo p.nextTileLsb
        bgPatHi := shiftAndLoad shifts (phaseAt s 0) p.bgPatHi p.nextTileMsb
        bgAttrLo := shiftAndLoad shifts (phaseAt s 0) p.bgAttrLo (spreadBit (bit p.nextTileAttr 0))
        bgAttrHi := shiftAndLoad shifts (phaseAt s 0) p.bgAttrHi (spreadBit (bit p.nextTileAttr 1))
        nextTileId := if phaseAt s 0 then ppuRead s (tileIdAddr v) else p.nextTileId
        nextTileAttr := if phaseAt s 2 then attributeQuadrant v (ppuRead s (attributeAddr v)) else p.nextTileAttr
        nextTileLsb :=
          if phaseAt s 4 then ppuRead s (patternAddr p.ctrl p.nextTileId row false) else p.nextTileLsb
        nextTileMsb :=
          if phaseAt s 6 then ppuRead s (patternAddr p.ctrl p.nextTileId row true) else p.nextTileMsb
        vramAddr := if phaseAt s 7 then (if layersOn p then incrementX v else v) else v
        sprites := if countsSprites p.mask p.cycle then (shiftLanes p.sprites p.lanes).1 else p.sprites
        lanes := if countsSprites p.mask p.cycle then (shiftLanes p.sprites p.lanes).2 else p.lanes } := by
  by_cases hon : inPipeline s.cfg s.ppu.cycle = true
  · have hread (a : PpuAddr) : ppuRead { s with ppu := shiftSprites (shiftBackground s.ppu) } a = ppuRead s a := by
      rw [shiftSprites_eq, shiftBackground_eq]
      rfl
    rw [pipelinePart, if_pos hon, bgPhase_ppu]
    simp only [phaseAt, hon, hread, Bool.true_and, decide_eq_true_eq]
    rw [shiftSprites_eq, shiftBackground_eq]
    rfl
  · have hcounts : countsSprites s.ppu.mask s.ppu.cycle = false := by
      rw [Bool.eq_false_iff]
      exact fun h => hon (inPipeline_of_countsSprites h)
    rw [pipelinePart, if_neg hon]
    rw [Bool.not_eq_true] at hon
    simp [phaseAt, hon, hcounts, shiftAndLoad]

/-! ### The work of a line, field by field -/

/-- The parts of a line in the order of rule R400, from the state after the odd-frame skip. -/
def lineWork (s : State) : State :=
  fetchPart <| evaluationPart <| transferYPart <| transferXPart <| incrementYPart <| pipelinePart <| clearPart s

theorem phaseAt_clearPart (s : State) (k : Nat) : phaseAt (clearPart s) k = phaseAt s k := by
  rw [phaseAt, (clearPart_frame s).frame.cfg, (clearPart_frame s).cycle, phaseAt]

theorem ppuRead_clearPart (s : State) (a : PpuAddr) : ppuRead (clearPart s) a = ppuRead s a :=
  (clearPart_frame s).ppuRead a

/-- The pipeline's increment, then the vertical one, then the two transfers, all with rendering enabled only. -/
theorem lineWork_vramAddr (s : State) :
    (lineWork s).ppu.vramAddr =
      let p := s.ppu
      let v1 := if phaseAt s 7 then incrementX p.vramAddr else p.vramAddr
      let v2 := if p.cycle = 256 then incrementY v1 else v1
      let v3 := if p.cycle = 257 then transferX v2 p.tramAddr else v2
      let v4 := if p.scanline = -1 ∧ 280 ≤ p.cycle ∧ p.cycle ≤ 304 then transferY v3 p.tramAddr else v3
      if layersOn p then v4 else p.vramAddr := by
  rw [lineWork, fetchPart_ppu, evaluationPart_ppu]
  simp only [transferYPart_ppu, transferXPart_ppu, incrementYPart_ppu, pipelinePart_ppu, clearPart_ppu,
    phaseAt_clearPart, layersOn]
  by_cases hon : (s.ppu.mask.getLsbD 3 || s.ppu.mask.getLsbD 4) = true
  · simp only [if_pos hon]
    exact (if_pos hon).symm
  · simp only [if_neg hon, ite_self]
    exact (if_neg hon).symm

theorem lineWork_latches (s : State) :
    (lineWork s).ppu.nextTileId = (if phaseAt s 0 then ppuRead s (tileIdAddr s.ppu.vramAddr) else s.ppu.nextTileId) ∧
    (lineWork s).ppu.nextTileAttr =
      (if phaseAt s 2 then attributeQuadrant s.ppu.vramAddr (ppuRead s (attributeAddr s.ppu.vramAddr))
      else s.ppu.nextTileAttr) ∧
    (lineWork s).ppu.nextTileLsb =
      (if phaseAt s 4 then ppuRead s (patternAddr s.ppu.ctrl s.ppu.nextTileId (fineY s.ppu.vramAddr) false)
      else s.ppu.nextTileLsb) ∧
    (lineWork s).ppu.nextTileMsb =
      (if phaseAt s 6 then ppuRead s (patternAddr s.ppu.ctrl s.ppu.nextTileId (fineY s.ppu.vramAddr) true)
      else s.ppu.nextTileMsb) := by
  rw [lineWork, fetchPart_ppu, evaluationPart_ppu]
  simp only [transferYPart_ppu, transferXPart_ppu, incrementYPart_ppu, pipelinePart_ppu, clearPart_ppu,
    phaseAt_clearPart, ppuRead_clearPart, and_self]

/-- Loading again what was loaded changes nothing. -/
theorem shiftAndLoad_loaded (shift : Bool) (r : Word) (low : Byte) :
    shiftAndLoad false true (shiftAndLoad shift true r low) low = shiftAndLoad shift true r low :=
  congrArg (hilo · low) (highByte_assemble16 low _)

/-- Cycle 257 is a phase 0 of the pipeline (rule R403). -/
theorem phaseAt_257 {s : State} (h : s.ppu.cycle = 257) (k : Nat) : phaseAt s k = decide (0 = k) := by
  rw [phaseAt, h, inPipeline]
  cases s.cfg.bgPipeStart <;> rfl

/-- The load at cycle 257 comes on top of the pipeline's own and changes nothing more (rules R403, R412). -/
theorem lineWork_shifters (s : State) :
    let p := s.ppu
    let q := (lineWork s).ppu
    let shifts := inPipeline s.cfg p.cycle && p.mask.getLsbD 3
    q.bgPatLo = shiftAndLoad shifts (phaseAt s 0) p.bgPatLo p.nextTileLsb ∧
    q.bgPatHi = shiftAndLoad shifts (phaseAt s 0) p.bgPatHi p.nextTileMsb ∧
    q.bgAttrLo = shiftAndLoad shifts (phaseAt s 0) p.bgAttrLo (spreadBit (bit p.nextTileAttr 0)) ∧
    q.bgAttrHi = shiftAndLoad shifts (phaseAt s 0) p.bgAttrHi (spreadBit (bit p.nextTileAttr 1)) := by
  simp only [lineWork, fetchPart_ppu, evaluationPart_ppu, transferYPart_ppu, transferXPart_ppu, incrementYPart_ppu,
    pipelinePart_ppu, clearPart_ppu, phaseAt_clearPart, (clearPart_frame s).frame.cfg]
  by_cases h : s.ppu.cycle = 257
  · have hload : phaseAt s 0 = true := phaseAt_257 h 0
    have hfetch : phaseAt s 2 = false ∧ phaseAt s 4 = false ∧ phaseAt s 6 = false :=
      ⟨phaseAt_257 h 2, phaseAt_257 h 4, phaseAt_257 h 6⟩
    simp only [decide_eq_true h, hload, hfetch, Bool.false_eq_true, if_false, shiftAndLoad_loaded, and_self]
  · simp only [decide_eq_false h]
    exact ⟨rfl, rfl, rfl, rfl⟩

/-- The sprite buffer after the work of a line. -/
theorem lineWork_sprites (s : State) :
    let p := s.ppu
    let q := (lineWork s).ppu
    let clears := decide (p.scanline = -1 ∧ p.cycle = 1)
    let evaluates := decide (0 ≤ p.scanline ∧ p.cycle = 257)
    let hits := entriesInRange p.oam p.scanline (spriteHeight p.ctrl) (List.range 64)
    let lanes := if clears then p.lanes.map fun _ => ⟨0, 0⟩ else p.lanes
    q.sprites =
      (if evaluates then (hits.take 8).map (oamEntry p.oam)
      else if countsSprites p.mask p.cycle then (shiftLanes p.sprites lanes).1 else p.sprites) ∧
    q.sprZeroSelected =
      (if evaluates then inRange p.scanline (spriteHeight p.ctrl) (p.oam.read 0) else p.sprZeroSelected) ∧
    q.sprOverflow = ((p.sprOverflow && !clears) || (evaluates && decide (8 < hits.length))) := by
  simp only [lineWork, fetchPart_ppu, evaluationPart_ppu, transferYPart_ppu, transferXPart_ppu, incrementYPart_ppu,
    pipelinePart_ppu, clearPart_ppu, phaseAt_clearPart, and_self]

/-- A lane fetched depends on the registers, the line and what the PPU bus reads. -/
theorem LineFrame.fetchLane {s t : State} (h : LineFrame s t) (sp : Sprite) :
    Machine.fetchLane t sp = Machine.fetchLane s sp := by
  unfold Machine.fetchLane
  simp only [h.frame.ctrl, h.scanline, h.ppuRead]

/-- The parts before the fetch leave what it reads alone. -/
theorem beforeFetch_frame (s : State) :
    LineFrame s (evaluationPart <| transferYPart <| transferXPart <| incrementYPart <| pipelinePart <| clearPart s) :=
  (clearPart_frame s).trans <| (pipelinePart_frame _).line.trans <| (incrementYPart_frame _).line.trans <|
    (transferXPart_frame _).line.trans <| (transferYPart_frame _).line.trans (evaluationPart_frame _).line

/-- The sprite lanes after the work of a line. -/
theorem lineWork_lanes (s : State) :
    let p := s.ppu
    let cleared := if p.scanline = -1 ∧ p.cycle = 1 then p.lanes.map fun _ => ⟨0, 0⟩ else p.lanes
    let shifted := if countsSprites p.mask p.cycle then (shiftLanes p.sprites cleared).2 else cleared
    (lineWork s).ppu.lanes =
      if 0 ≤ p.scanline ∧ p.cycle = 340 then p.sprites.map (fetchLane s) ++ shifted.drop p.sprites.length
      else shifted := by
  have hlane : fetchLane
        (evaluationPart <| transferYPart <| transferXPart <| incrementYPart <| pipelinePart <| clearPart s) =
      fetchLane s := funext (beforeFetch_frame s).fetchLane
  simp only [lineWork, fetchPart_ppu, hlane, evaluationPart_ppu, transferYPart_ppu, transferXPart_ppu,
    incrementYPart_ppu, pipelinePart_ppu, clearPart_ppu, phaseAt_clearPart, decide_eq_true_eq]
  by_cases hfetch : 0 ≤ s.ppu.scanline ∧ s.ppu.cycle = 340
  · have hquiet : ¬ (2 ≤ s.ppu.cycle ∧ s.ppu.cycle ≤ 257) := by omega
    have hcounts : countsSprites s.ppu.mask s.ppu.cycle = false := by
      rw [countsSprites, decide_eq_false hquiet, Bool.and_false]
    have heval : ¬ (0 ≤ s.ppu.scanline ∧ s.ppu.cycle = 257) := by omega
    simp only [if_pos hfetch, hcounts, if_neg heval, Bool.false_eq_true, if_false]
  · simp only [if_neg hfetch]

end Sys2Proof.Machine
end

section
/-! PROOFS. A whole PPU tick: on a renderable line the line's work with the cursor moved on, elsewhere nothing of the
picture (spec/62_ppu.md rule R400).  Then the scroll arithmetic (section 4) and where a tick applies it. -/

namespace Sys2Proof.Machine

open Sys2Proof.Claims

/-! ### The tick as the work of a line -/

theorem oddFrameSkip_eq (p : Ppu) : oddFrameSkip p = { p with cycle := dot p } := by
  rw [← oddFrameSkip_cycle]
  rcases oddFrameSkip_cases p with ⟨h, -⟩ | h <;> rw [h]

/-- The state in which the parts of a line begin: the cursor is at the dot acted on. -/
def lineStart (s : State) : State := { tickStart s with ppu := oddFrameSkip (tickStart s).ppu }

theorem renderLine_tickStart (s : State) : renderLine (tickStart s) = lineWork (lineStart s) := rfl

theorem lineStart_ppu (s : State) :
    (lineStart s).ppu =
      { s.ppu with
        cycle := dot s.ppu
        statusReadLastTick := s.ppu.statusReadThisTick
        statusReadThisTick := false } := by
  rw [lineStart, oddFrameSkip_eq, (tickStart_ppu s).1]
  rfl

theorem lineStart_cfg (s : State) : (lineStart s).cfg = s.cfg := (scanlineHook_frame _).1.cfg

/-- What the PPU bus reads is the same throughout a tick. -/
theorem ppuRead_lineStart (s : State) (a : PpuAddr) : ppuRead (lineStart s) a = ppuRead (ppuTick s) a := by
  have hframe := ppuTick_frame s
  have hcfg : (lineStart s).cfg = (ppuTick s).cfg := (lineStart_cfg s).trans hframe.cfg.symm
  refine ppuRead_congr (s := ppuTick s) (t := lineStart s) (ppuTick_cart s).symm hcfg ?_ ?_ a
  · rw [hframe.nametable, lineStart_ppu]
  · rw [hframe.palette, lineStart_ppu]

theorem renderable_iff (p : Ppu) : renderable p = true ↔ -1 ≤ p.scanline ∧ p.scanline ≤ 239 := by
  rw [renderable, Bool.and_eq_true, decide_eq_true_eq, decide_eq_true_eq]

theorem not_renderable_iff (p : Ppu) : renderable p = false ↔ ¬ (-1 ≤ p.scanline ∧ p.scanline ≤ 239) := by
  rw [← renderable_iff, Bool.not_eq_true]

/-- On a renderable line a tick leaves the PPU as the line's work does, but for the cursor and sprite zero hit. -/
theorem ppuTick_ppu_renderable {s : State} (h : renderable s.ppu = true) :
    (ppuTick s).ppu =
      { (lineWork (lineStart s)).ppu with
        spr0Hit := (ppuTick s).ppu.spr0Hit
        cycle := (ppuTick s).ppu.cycle
        scanline := (ppuTick s).ppu.scanline
        oddFrame := (ppuTick s).ppu.oddFrame } := by
  rw [ppuTick_renderable ((renderable_iff _).1 h), renderLine_tickStart, advanceCursor_eq, (pixelPart_frame _).2.2.2]

/-- On any other line a tick touches the cursor, `vblank` and the race flags only. -/
theorem ppuTick_ppu_elsewhere {s : State} (h : renderable s.ppu = false) :
    (ppuTick s).ppu =
      { s.ppu with
        vblank := (ppuTick s).ppu.vblank
        cycle := (ppuTick s).ppu.cycle
        scanline := (ppuTick s).ppu.scanline
        oddFrame := (ppuTick s).ppu.oddFrame
        statusReadLastTick := (ppuTick s).ppu.statusReadLastTick
        statusReadThisTick := (ppuTick s).ppu.statusReadThisTick } := by
  rw [ppuTick_elsewhere ((not_renderable_iff _).1 h), advanceCursor_eq, (vblankPart_frame _).2.2.2, (tickStart_ppu s).1]
  rfl

/-! ### The pipeline's cycles -/

theorem inPipe_of_renderable {s : State} (h : renderable s.ppu = true) :
    inPipe s = inPipeline s.cfg (dot s.ppu) := by
  simp only [inPipe, h, Bool.true_and, inPipeline]
  cases s.cfg.bgPipeStart <;> rfl

theorem inPhase_of_not_renderable {s : State} (h : renderable s.ppu = false) (k : Nat) : inPhase s k = false := by
  simp only [inPhase, inPipe, h, Bool.false_and]

/-- No cycle of the pipeline is 0. -/
theorem pos_of_inPipeline {cfg : Config} {c : Nat} (h : inPipeline cfg c = true) : 0 < c := by
  simp only [inPipeline, Bool.or_eq_true, Bool.and_eq_true, decide_eq_true_eq] at h
  have : 1 ≤ cfg.bgPipeStart.toNat := by cases cfg.bgPipeStart <;> decide
  omega

/-- Phase `k` of the pipeline is at the cycles congruent to `k + 1` modulo 8. -/
theorem phaseAt_lineStart {s : State} (h : renderable s.ppu = true) {k : Nat} (hk : k < 8) :
    phaseAt (lineStart s) k = inPhase s ((k + 1) % 8) := by
  rw [phaseAt, inPhase, inPipe_of_renderable h, lineStart_cfg, lineStart_ppu]
  cases hon : inPipeline s.cfg (dot s.ppu) with
  | false => rfl
  | true =>
    have := pos_of_inPipeline hon
    simp only [Bool.true_and]
    exact decide_eq_decide.2 (by omega)

/-! ### The scroll arithmetic (rules R410 to R413) -/

/-- The column among the 64 of both nametables. -/
def scrollColumn (r : Scroll) : Nat := (ntX r).toNat * 32 + (coarseX r).toNat

/-- The row among the 480 of both nametables, for coarse Y below 30. -/
def scrollRow (r : Scroll) : Nat := (ntY r).toNat * 240 + (coarseY r).toNat * 8 + (fineY r).toNat

/-- Toggling a nametable bit. -/
theorem toggle_toNat (b : BitVec 1) : (b ^^^ 1).toNat = 1 - b.toNat :=
  (by decide : ∀ b : BitVec 1, (b ^^^ 1).toNat = 1 - b.toNat) b

/-- Adding 1 to a field, below its last value. -/
theorem toNat_add_one {n : Nat} (b : BitVec n) (h : b.toNat + 1 < 2 ^ n) : (b + 1).toNat = b.toNat + 1 := by
  have hone : (1 : BitVec n).toNat = 1 := Nat.mod_eq_of_lt (Nat.lt_of_le_of_lt (Nat.le_add_left 1 _) h)
  rw [BitVec.toNat_add, hone, Nat.mod_eq_of_lt h]

/-- The horizontal increment, within a nametable and from its last column. -/
theorem incrementX_cases (v : Scroll) :
    ((coarseX v).toNat < 31 ∧ incrementX v = withCoarseX v (coarseX v + 1)) ∨
    ((coarseX v).toNat = 31 ∧ incrementX v = withNtX (withCoarseX v 0) (ntX v ^^^ 1)) := by
  have hlt := (coarseX v).isLt
  by_cases h : coarseX v = 31
  · exact .inr ⟨by rw [h]; rfl, if_pos h⟩
  · have hne : (coarseX v).toNat ≠ 31 := fun hv => h (BitVec.eq_of_toNat_eq hv)
    exact .inl ⟨by omega, if_neg h⟩

theorem incrementX_column (v : Scroll) : scrollColumn (incrementX v) = (scrollColumn v + 1) % 64 := by
  have hnt := (ntX v).isLt
  have hzero : (0 : BitVec 5).toNat = 0 := rfl
  rcases incrementX_cases v with ⟨h, e⟩ | ⟨h, e⟩
  · have hnext := toNat_add_one (coarseX v) (by omega)
    simp only [e, scrollColumn, withCoarseX, ntX_mkScroll, coarseX_mkScroll, hnext]
    omega
  · simp only [e, scrollColumn, withNtX, withCoarseX, ntX_mkScroll, coarseX_mkScroll, toggle_toNat, hzero]
    omega

/-- The horizontal increment touches coarse X and bit 10 only. -/
theorem incrementX_getLsbD (v : Scroll) {k : Nat} (h5 : 5 ≤ k) (h10 : k ≠ 10) :
    (incrementX v).getLsbD k = v.getLsbD k := by
  by_cases hk : k < 15
  · rcases incrementX_cases v with ⟨-, e⟩ | ⟨-, e⟩
    · rw [e, withCoarseX_getLsbD _ _ hk, if_neg (by omega)]
    · rw [e, withNtX_getLsbD _ _ hk, if_neg h10, withCoarseX_getLsbD _ _ hk, if_neg (by omega)]
  · rw [BitVec.getLsbD_of_ge _ _ (by omega), BitVec.getLsbD_of_ge _ _ (by omega)]

/-- The vertical increment: within a tile, or from its last row to the next tile, which is below, at the top of the
other nametable from coarse Y 29, or at the top of this one from 31. -/
theorem incrementY_cases (v : Scroll) :
    ((fineY v).toNat < 7 ∧ incrementY v = withFineY v (fineY v + 1)) ∨
    ((fineY v).toNat = 7 ∧
      (((coarseY v).toNat ≠ 29 ∧ (coarseY v).toNat < 31 ∧
          incrementY v = withCoarseY (withFineY v 0) (coarseY v + 1)) ∨
        ((coarseY v).toNat = 29 ∧ incrementY v = withNtY (withCoarseY (withFineY v 0) 0) (ntY v ^^^ 1)) ∨
        ((coarseY v).toNat = 31 ∧ incrementY v = withCoarseY (withFineY v 0) 0))) := by
  have hfy := (fineY v).isLt
  have hcy := (coarseY v).isLt
  by_cases h7 : (fineY v).toNat < 7
  · exact .inl ⟨h7, if_pos h7⟩
  refine .inr ⟨by omega, ?_⟩
  rw [incrementY, if_neg h7]
  by_cases h29 : coarseY v = 29
  · exact .inr (.inl ⟨by rw [h29]; rfl, if_pos h29⟩)
  by_cases h31 : coarseY v = 31
  · exact .inr (.inr ⟨by rw [h31]; rfl, (if_neg h29).trans (if_pos h31)⟩)
  · have hne29 : (coarseY v).toNat ≠ 29 := fun hv => h29 (BitVec.eq_of_toNat_eq hv)
    have hne31 : (coarseY v).toNat ≠ 31 := fun hv => h31 (BitVec.eq_of_toNat_eq hv)
    exact .inl ⟨hne29, by omega, (if_neg h29).trans (if_neg h31)⟩

theorem incrementY_row (v : Scroll) (h : (coarseY v).toNat < 30) :
    scrollRow (incrementY v) = (scrollRow v + 1) % 480 := by
  have hnt := (ntY v).isLt
  have hzero5 : (0 : BitVec 5).toNat = 0 := rfl
  have hzero3 : (0 : BitVec 3).toNat = 0 := rfl
  rcases incrementY_cases v with ⟨hfy, e⟩ | ⟨hfy, ⟨hcy, -, e⟩ | ⟨hcy, e⟩ | ⟨hcy, -⟩⟩
  · have hnext := toNat_add_one (fineY v) (by omega)
    simp only [e, scrollRow, withFineY, ntY_mkScroll, coarseY_mkScroll, fineY_mkScroll, hnext]
    omega
  · have hnext := toNat_add_one (coarseY v) (by omega)
    simp only [e, scrollRow, withCoarseY, withFineY, ntY_mkScroll, coarseY_mkScroll, fineY_mkScroll, hzero3, hnext]
    omega
  · simp only [e, scrollRow, withNtY, withCoarseY, withFineY, ntY_mkScroll, coarseY_mkScroll, fineY_mkScroll, hzero3,
      hzero5, toggle_toNat]
    omega
  · omega

/-- From coarse Y 30 up the nametable is not toggled. -/
theorem incrementY_overscan (v : Scroll) (h : 30 ≤ (coarseY v).toNat) :
    ntY (incrementY v) = ntY v ∧ (fineY (incrementY v)).toNat = ((fineY v).toNat + 1) % 8 ∧
      (coarseY (incrementY v)).toNat =
        if (fineY v).toNat = 7 then (if (coarseY v).toNat = 31 then 0 else 31) else (coarseY v).toNat := by
  rcases incrementY_cases v with ⟨hfy, e⟩ | ⟨hfy, ⟨-, hcy, e⟩ | ⟨hcy, -⟩ | ⟨hcy, e⟩⟩
  · have hnext := toNat_add_one (fineY v) (by omega)
    simp only [e, withFineY, ntY_mkScroll, coarseY_mkScroll, fineY_mkScroll, hnext]
    exact ⟨trivial, by omega, (if_neg (by omega)).symm⟩
  · have hnext := toNat_add_one (coarseY v) (by omega)
    simp only [e, withCoarseY, withFineY, ntY_mkScroll, coarseY_mkScroll, fineY_mkScroll, hfy, hnext, if_true]
    rw [if_neg (by omega)]
    exact ⟨trivial, rfl, by omega⟩
  · omega
  · simp only [e, withCoarseY, withFineY, ntY_mkScroll, coarseY_mkScroll, fineY_mkScroll, hfy, hcy, if_true]
    exact ⟨trivial, rfl, rfl⟩

theorem incrementY_column (v : Scroll) : scrollColumn (incrementY v) = scrollColumn v := by
  rcases incrementY_cases v with ⟨-, e⟩ | ⟨-, ⟨-, -, e⟩ | ⟨-, e⟩ | ⟨-, e⟩⟩ <;>
    simp only [e, scrollColumn, withNtY, withCoarseY, withFineY, ntX_mkScroll, coarseX_mkScroll]

theorem transferX_getLsbD (v t : Scroll) {k : Nat} (hk : k < 15) :
    (transferX v t).getLsbD k = if k < 5 ∨ k = 10 then t.getLsbD k else v.getLsbD k := by
  rw [transferX, withCoarseX_getLsbD _ _ hk, withNtX_getLsbD _ _ hk, coarseX_getLsbD, ntX_getLsbD]
  by_cases h5 : k < 5
  · simp [h5]
  · by_cases h10 : k = 10
    · simp [h10]
    · simp [h5, h10]

theorem transferY_getLsbD (v t : Scroll) {k : Nat} (hk : k < 15) :
    (transferY v t).getLsbD k = if k < 5 ∨ k = 10 then v.getLsbD k else t.getLsbD k := by
  rw [transferY, withCoarseY_getLsbD _ _ hk, withNtY_getLsbD _ _ hk, withFineY_getLsbD _ _ hk, coarseY_getLsbD,
    ntY_getLsbD, fineY_getLsbD]
  interval_cases k <;> simp

/-- The horizontal increment is at phase 7 of the pipeline (rules R403, R410). -/
theorem phaseAt_lineStart_seven (s : State) :
    phaseAt (lineStart s) 7 = true ↔
      dot s.ppu ∈ [328, 336] ∨ (dot s.ppu % 8 = 0 ∧ 8 ≤ dot s.ppu ∧ dot s.ppu ≤ 256) := by
  rw [phaseAt, lineStart_cfg, lineStart_ppu]
  simp only [inPipeline, Bool.and_eq_true, Bool.or_eq_true, decide_eq_true_eq, List.mem_cons, List.not_mem_nil,
    or_false]
  cases s.cfg.bgPipeStart
  · have : BgPipeStart.one.toNat = 1 := rfl
    omega
  · have : BgPipeStart.two.toNat = 2 := rfl
    omega

/-- Settles O48: the arithmetic by the cases of each increment, the tick by `lineWork_vramAddr`. -/
theorem scrollArithmetic : Obligations.ScrollArithmetic := by
  unfold Obligations.ScrollArithmetic
  refine ⟨fun v t => ⟨incrementX_column v, fun k h5 h10 => incrementX_getLsbD v h5 h10, incrementY_row v,
    incrementY_overscan v, incrementY_column v, fun k hk => transferX_getLsbD v t hk,
    fun k hk => transferY_getLsbD v t hk⟩, ?tick⟩
  case tick =>
    intro s p c v1 v2 v3 v4
    cases hline : renderable p with
    | false =>
      have htick := congrArg Ppu.vramAddr (ppuTick_ppu_elsewhere hline)
      exact htick
    | true =>
      have htick := congrArg Ppu.vramAddr (ppuTick_ppu_renderable hline)
      rw [htick, lineWork_vramAddr]
      simp only [phaseAt_lineStart_seven, lineStart_ppu, Bool.true_and]
      rfl

end Sys2Proof.Machine
end

section
/-! PROOFS. Sprites over a whole PPU tick (spec/62_ppu.md section 5): the four things a tick does to the sprite buffer
and the lanes happen at different cycles, and each lane is taken by itself. -/

namespace Sys2Proof.Machine

open Sys2Proof.Claims

/-! ### When a tick works on the sprites (rules R400, R402, R420 to R422) -/

/-- The tick evaluates the sprites of the next line. -/
def evaluatesAt (p : Ppu) : Bool := visibleLine p && decide (dot p = 257)

/-- The tick clears the lanes and the overflow flag. -/
def clearsAt (p : Ppu) : Bool := decide (p.scanline = -1 ∧ dot p = 1)

/-- The tick counts the selected sprites down and shifts their lanes. -/
def shiftsAt (p : Ppu) : Bool := renderable p && decide (2 ≤ dot p ∧ dot p ≤ 257) && p.mask.getLsbD 4

/-- The tick fetches the lanes of the selected sprites. -/
def fetchesAt (p : Ppu) : Bool := visibleLine p && decide (dot p = 340)

/-- On a renderable line the visible ones are those from 0 up. -/
theorem visibleLine_of_renderable {p : Ppu} (h : renderable p = true) : visibleLine p = decide (0 ≤ p.scanline) := by
  rw [visibleLine, decide_eq_true ((renderable_iff p).1 h).2, Bool.and_true]

theorem evaluatesAt_of_renderable {p : Ppu} (h : renderable p = true) :
    evaluatesAt p = decide (0 ≤ p.scanline ∧ dot p = 257) := by
  rw [evaluatesAt, visibleLine_of_renderable h, Bool.decide_and]

theorem fetchesAt_of_renderable {p : Ppu} (h : renderable p = true) :
    fetchesAt p = decide (0 ≤ p.scanline ∧ dot p = 340) := by
  rw [fetchesAt, visibleLine_of_renderable h, Bool.decide_and]

theorem shiftsAt_of_renderable {p : Ppu} (h : renderable p = true) : shiftsAt p = countsSprites p.mask (dot p) := by
  rw [shiftsAt, h, Bool.true_and, Bool.and_comm, countsSprites]

/-- On any other line a tick does none of the four. -/
theorem spriteWork_elsewhere {p : Ppu} (h : renderable p = false) :
    evaluatesAt p = false ∧ clearsAt p = false ∧ shiftsAt p = false ∧ fetchesAt p = false := by
  have hline := (not_renderable_iff p).1 h
  have hvisible : visibleLine p = false := by
    rw [visibleLine, ← Bool.decide_and, decide_eq_false_iff_not]
    omega
  refine ⟨?_, ?_, ?_, ?_⟩
  · rw [evaluatesAt, hvisible, Bool.false_and]
  · rw [clearsAt, decide_eq_false_iff_not]
    omega
  · rw [shiftsAt, h, Bool.false_and, Bool.false_and]
  · rw [fetchesAt, hvisible, Bool.false_and]

/-! ### The buffer and the lanes after a tick -/

/-- The sprite buffer after a tick, from the entries in range. -/
theorem ppuTick_spriteBuffer {s : State} {p : Ppu} (hp : s.ppu = p) (hsizes : p.sprites.length ≤ p.lanes.length) :
    (ppuTick s).ppu.sprites =
      (if evaluatesAt p then
        ((entriesInRange p.oam p.scanline (spriteHeight p.ctrl) (List.range 64)).take 8).map (oamEntry p.oam)
      else if shiftsAt p then p.sprites.map Sprite.countedDown else p.sprites) ∧
    (ppuTick s).ppu.sprZeroSelected =
      (if evaluatesAt p then inRange p.scanline (spriteHeight p.ctrl) (p.oam.read 0) else p.sprZeroSelected) ∧
    (ppuTick s).ppu.sprOverflow =
      ((p.sprOverflow && !clearsAt p) || (evaluatesAt p &&
        decide (8 < (entriesInRange p.oam p.scanline (spriteHeight p.ctrl) (List.range 64)).length))) := by
  subst hp
  cases hline : renderable s.ppu with
  | false =>
    obtain ⟨hevaluates, hclears, hshifts, -⟩ := spriteWork_elsewhere hline
    have htick := ppuTick_ppu_elsewhere hline
    rw [hevaluates, hclears, hshifts]
    refine ⟨(congrArg Ppu.sprites htick).trans rfl, (congrArg Ppu.sprZeroSelected htick).trans rfl,
      (congrArg Ppu.sprOverflow htick).trans ?_⟩
    rw [Bool.not_false, Bool.and_true, Bool.false_and, Bool.or_false]
  | true =>
    have htick := ppuTick_ppu_renderable hline
    obtain ⟨hsprites, hzero, hoverflow⟩ := lineWork_sprites (lineStart s)
    rw [lineStart_ppu] at hsprites hzero hoverflow
    rw [evaluatesAt_of_renderable hline, shiftsAt_of_renderable hline]
    refine ⟨(congrArg Ppu.sprites htick).trans ?_, (congrArg Ppu.sprZeroSelected htick).trans hzero,
      (congrArg Ppu.sprOverflow htick).trans hoverflow⟩
    rw [hsprites, shiftLanes_fst _ _ (by split <;> simpa using hsizes)]

/-- The lanes after a tick. -/
theorem ppuTick_lanes (s : State) :
    let p := s.ppu
    let cleared := if clearsAt p then p.lanes.map fun _ => ⟨0, 0⟩ else p.lanes
    let shifted := if shiftsAt p then (shiftLanes p.sprites cleared).2 else cleared
    (ppuTick s).ppu.lanes =
      if fetchesAt p then p.sprites.map (fetchLane (lineStart s)) ++ shifted.drop p.sprites.length else shifted := by
  intro p cleared shifted
  cases hline : renderable p with
  | false =>
    obtain ⟨-, hclears, hshifts, hfetches⟩ := spriteWork_elsewhere hline
    have htick := congrArg Ppu.lanes (ppuTick_ppu_elsewhere hline)
    simp only [shifted, cleared, hclears, hshifts, hfetches]
    exact htick
  | true =>
    have htick := congrArg Ppu.lanes (ppuTick_ppu_renderable hline)
    have hlanes := lineWork_lanes (lineStart s)
    rw [lineStart_ppu] at hlanes
    rw [htick, hlanes, fetchesAt_of_renderable hline]
    simp only [shifted, cleared, clearsAt, shiftsAt_of_renderable hline, decide_eq_true_eq]
    rfl

/-- A lane after a tick, from the lane before it and the selected sprite of its place, if there is one. -/
def laneAfter (s : State) (o : Option Sprite) (l : Lane) : Lane :=
  let cleared := if clearsAt s.ppu then ⟨0, 0⟩ else l
  let shifted := if shiftsAt s.ppu then cleared.shiftedFor o else cleared
  if fetchesAt s.ppu then o.elim shifted (fetchLane (lineStart s)) else shifted

/-- Each lane is taken by itself. -/
theorem ppuTick_lanes_getElem? (s : State) (hsizes : s.ppu.sprites.length ≤ s.ppu.lanes.length) (k : Nat) :
    (ppuTick s).ppu.lanes[k]? = s.ppu.lanes[k]?.map (laneAfter s s.ppu.sprites[k]?) := by
  have hticked := ppuTick_lanes s
  extract_lets p cleared shifted at hticked
  have hcleared : cleared.length = p.lanes.length ∧
      cleared[k]? = p.lanes[k]?.map fun l => if clearsAt p then ⟨0, 0⟩ else l := by
    cases h : clearsAt p with
    | false => simp [cleared, h]
    | true => simp only [cleared, h, if_true, List.length_map, List.getElem?_map, and_self]
  have hshifted : shifted.length = cleared.length ∧
      shifted[k]? = cleared[k]?.map fun l => if shiftsAt p then l.shiftedFor p.sprites[k]? else l := by
    cases h : shiftsAt p <;> simp [shifted, h, shiftLanes_snd_getElem?, shiftLanes_length]
  have hfetched : (ppuTick s).ppu.lanes[k]? =
      shifted[k]?.map fun l => if fetchesAt p then p.sprites[k]?.elim l (fetchLane (lineStart s)) else l := by
    rw [hticked]
    cases h : fetchesAt p with
    | false => simp
    | true => simpa using fetched_getElem? _ _ _ (by rw [hshifted.1, hcleared.1]; exact hsizes) k
  rw [hfetched, hshifted.2, hcleared.2, Option.map_map, Option.map_map]
  rfl

/-- A tick keeps eight lanes. -/
theorem ppuTick_lanes_length (s : State) (hsizes : s.ppu.sprites.length ≤ s.ppu.lanes.length) :
    (ppuTick s).ppu.lanes.length = s.ppu.lanes.length := by
  have h (k : Nat) : (ppuTick s).ppu.lanes[k]? = none ↔ s.ppu.lanes[k]? = none := by
    rw [ppuTick_lanes_getElem? s hsizes, Option.map_eq_none_iff]
  simp only [List.getElem?_eq_none_iff] at h
  exact Nat.le_antisymm ((h _).2 (Nat.le_refl _)) ((h _).1 (Nat.le_refl _))

/-! ### The four at their cycles -/

theorem not_clearsAt_of_shiftsAt {p : Ppu} (h : shiftsAt p = true) : clearsAt p = false := by
  simp only [shiftsAt, Bool.and_eq_true, decide_eq_true_eq] at h
  rw [clearsAt, decide_eq_false_iff_not]
  omega

theorem not_clearsAt_of_fetchesAt {p : Ppu} (h : fetchesAt p = true) : clearsAt p = false := by
  simp only [fetchesAt, Bool.and_eq_true, decide_eq_true_eq] at h
  rw [clearsAt, decide_eq_false_iff_not]
  omega

theorem not_fetchesAt_of_shiftsAt {p : Ppu} (h : shiftsAt p = true) : fetchesAt p = false := by
  simp only [shiftsAt, Bool.and_eq_true, decide_eq_true_eq] at h
  rw [fetchesAt, decide_eq_false (by omega : ¬ dot p = 340), Bool.and_false]

section LaneAfter
variable {s : State} {o : Option Sprite} {sp : Sprite} {l : Lane}

theorem laneAfter_cleared (h : clearsAt s.ppu = true) : laneAfter s o l = ⟨0, 0⟩ := by
  have hshifts : shiftsAt s.ppu = false := by
    rw [← Bool.not_eq_true]
    exact fun hs => Bool.false_ne_true ((not_clearsAt_of_shiftsAt hs).symm.trans h)
  have hfetches : fetchesAt s.ppu = false := by
    rw [← Bool.not_eq_true]
    exact fun hf => Bool.false_ne_true ((not_clearsAt_of_fetchesAt hf).symm.trans h)
  simp only [laneAfter, h, hshifts, hfetches, if_true, Bool.false_eq_true, if_false]

theorem laneAfter_fetched (h : fetchesAt s.ppu = true) :
    laneAfter s (some sp) l = fetchLane (lineStart s) sp := by
  simp only [laneAfter, h, if_true, Option.elim_some]

theorem laneAfter_shifted (h : shiftsAt s.ppu = true) (hx : sp.x = 0) :
    laneAfter s (some sp) l = ⟨l.lo <<< 1, l.hi <<< 1⟩ := by
  have hany : (some sp).any (·.x == 0) = true := beq_iff_eq.2 hx
  simp only [laneAfter, h, not_clearsAt_of_shiftsAt h, not_fetchesAt_of_shiftsAt h, Lane.shiftedFor, hany, if_true,
    Bool.false_eq_true, if_false]

/-- A lane without a sprite, or at no cycle that works on it, is kept. -/
theorem laneAfter_kept (hclears : clearsAt s.ppu = false)
    (h : o = none ∨ (fetchesAt s.ppu = false ∧ ¬ (shiftsAt s.ppu = true ∧ ∃ sp, o = some sp ∧ sp.x = 0))) :
    laneAfter s o l = l := by
  cases o with
  | none => simp [laneAfter, hclears, Lane.shiftedFor]
  | some sp =>
    obtain ⟨hfetches, hshifts⟩ := h.resolve_left (Option.some_ne_none sp)
    cases hon : shiftsAt s.ppu with
    | false => simp [laneAfter, hclears, hfetches, hon]
    | true =>
      have hx : (some sp).any (·.x == 0) = false := beq_eq_false_iff_ne.2 fun hx => hshifts ⟨hon, sp, rfl, hx⟩
      simp only [laneAfter, hclears, hfetches, Lane.shiftedFor, hx, Bool.false_eq_true, if_false, ite_self]

end LaneAfter

/-- The row test on the Y byte (rule R420). -/
theorem inRange_eq (line : Int) (h : Nat) (y : Byte) :
    inRange line h y = decide ((y.toNat : Int) ≤ line ∧ line < y.toNat + h) := by
  rw [inRange, ← Bool.decide_and]
  exact decide_eq_decide.2 (by omega)

/-- A left shift of a byte as doubling. -/
theorem shiftLeft_one_eq_double (b : Byte) : b <<< 1 = BitVec.ofNat 8 (2 * b.toNat) := by
  apply BitVec.eq_of_toNat_eq
  rw [BitVec.toNat_shiftLeft, BitVec.toNat_ofNat, Nat.shiftLeft_eq, Nat.pow_one, Nat.mul_comm]

/-- Settles O49: the buffer by `ppuTick_spriteBuffer`, each lane by `laneAfter` at its cycle. -/
theorem spriteEvaluationSelects : Obligations.SpriteEvaluationSelects := by
  unfold Obligations.SpriteEvaluationSelects
  intro s hsprites hlanes p c t h hit selected kept evaluates clears shifts fetches
  have hsizes : p.sprites.length ≤ p.lanes.length := hsprites.trans hlanes.ge
  have hhit (n : Nat) : inRange p.scanline (spriteHeight p.ctrl) (p.oam.read (4 * n)) = hit n := inRange_eq _ _ _
  have hzero : inRange p.scanline (spriteHeight p.ctrl) (p.oam.read 0) = hit 0 := hhit 0
  have hselected : entriesInRange p.oam p.scanline (spriteHeight p.ctrl) (List.range 64) = selected :=
    congrArg (List.filter · (List.range 64)) (funext hhit)
  have hkept : (selected.take 8).map (oamEntry p.oam) = kept := rfl
  obtain ⟨hbuffer, hmark, hoverflow⟩ := ppuTick_spriteBuffer rfl hsizes
  rw [hselected] at hbuffer hoverflow
  rw [hkept] at hbuffer
  rw [hzero] at hmark
  refine ⟨?evaluation, hbuffer, hmark, hoverflow, (ppuTick_lanes_length s hsizes).trans hlanes,
    fun k l l' hl hl' => ?lane⟩
  case evaluation => simp only [spriteEvaluation_eq, hselected, hkept, hzero]
  case lane =>
    have hafter : l' = laneAfter s p.sprites[k]? l := by
      rw [ppuTick_lanes_getElem? s hsizes, hl] at hl'
      exact (Option.some.inj hl').symm
    refine ⟨fun hclears => hafter.trans (laneAfter_cleared hclears), fun hfetches sp hsp j hj => ?fetched,
      fun hshifts sp hsp hx => ?shifted, fun hclears hquiet => ?kept⟩
    case fetched =>
      rw [hafter, hsp, laneAfter_fetched hfetches]
      have hbits := fetchLane_getLsbD (lineStart s) sp hj
      rw [lineStart_ppu] at hbits
      simp only [ppuRead_lineStart] at hbits
      exact hbits
    case shifted =>
      rw [hafter, hsp, laneAfter_shifted hshifts hx, shiftLeft_one_eq_double, shiftLeft_one_eq_double]
    case kept =>
      rw [Bool.not_eq_true] at hclears hquiet
      exact hafter.trans (laneAfter_kept hclears hquiet)

end Sys2Proof.Machine
end

section
/-! PROOFS. The picture (spec/62_ppu.md sections 3 and 6): the background's addresses on integers, the pixel as an entry
of the combination table, and what a whole PPU tick does to the pipeline, the pixel and sprite zero hit. -/

namespace Sys2Proof.Machine

open Sys2Proof.Claims

/-! ### The background's addresses on integers (rules R406 to R409) -/

theorem tileIdAddr_eq (v : Scroll) : tileIdAddr v = BitVec.ofNat 14 (0x2000 + v.toNat % 4096) := by
  apply BitVec.eq_of_toNat_eq
  simp [tileIdAddr]

theorem fineY_toNat (v : Scroll) : (fineY v).toNat = v.toNat / 4096 := by
  have := v.isLt
  rw [fineY, BitVec.extractLsb'_toNat, Nat.shiftRight_eq_div_pow]
  omega

theorem attributeAddr_eq (v : Scroll) :
    attributeAddr v =
      BitVec.ofNat 14 (0x23C0 + v.toNat / 1024 % 4 * 1024 + v.toNat / 128 % 8 * 8 + v.toNat / 4 % 8) := by
  have htable : (v.extractLsb' 10 2).toNat = v.toNat / 1024 % 4 := by
    rw [BitVec.extractLsb'_toNat, Nat.shiftRight_eq_div_pow]
  have hrow : ((coarseY v).extractLsb' 2 3).toNat = v.toNat / 128 % 8 := by
    rw [BitVec.extractLsb'_toNat, coarseY, BitVec.extractLsb'_toNat, Nat.shiftRight_eq_div_pow,
      Nat.shiftRight_eq_div_pow]
    omega
  have hcolumn : ((coarseX v).extractLsb' 2 3).toNat = v.toNat / 4 % 8 := by
    rw [BitVec.extractLsb'_toNat, coarseX, BitVec.extractLsb'_toNat, Nat.shiftRight_eq_div_pow,
      Nat.shiftRight_zero]
    omega
  apply BitVec.eq_of_toNat_eq
  simp only [attributeAddr, BitVec.toNat_add, BitVec.toNat_shiftLeft, BitVec.truncate_eq_setWidth,
    BitVec.toNat_setWidth, htable, hrow, hcolumn, Nat.shiftLeft_eq, BitVec.natCast_eq_ofNat,
    BitVec.toNat_ofNat]
  omega

/-- The low two bits of a byte. -/
theorem and_three_toNat (b : Byte) : (b &&& 0x03).toNat = b.toNat % 4 :=
  (BitVec.toNat_and b 3).trans (Nat.and_two_pow_sub_one_eq_mod b.toNat 2)

theorem attributeQuadrant_eq (v : Scroll) (b : Byte) :
    attributeQuadrant v b =
      BitVec.ofNat 8 (b.toNat / 2 ^ (v.toNat / 64 % 2 * 4 + v.toNat / 2 % 2 * 2) % 4) := by
  have hlow : (coarseX v).getLsbD 1 = decide (v.toNat / 2 % 2 = 1) := by
    rw [coarseX_getLsbD, BitVec.getLsbD, Nat.testBit_eq_decide_div_mod_eq]
    rfl
  have hhigh : (coarseY v).getLsbD 1 = decide (v.toNat / 64 % 2 = 1) := by
    rw [coarseY_getLsbD, BitVec.getLsbD, Nat.testBit_eq_decide_div_mod_eq]
    rfl
  apply BitVec.eq_of_toNat_eq
  unfold attributeQuadrant
  rw [hlow, hhigh, and_three_toNat, BitVec.toNat_ofNat]
  rcases Nat.mod_two_eq_zero_or_one (v.toNat / 2) with hx | hx <;>
    rcases Nat.mod_two_eq_zero_or_one (v.toNat / 64) with hy | hy <;>
    simp [hx, hy, Nat.shiftRight_eq_div_pow] <;> omega

theorem patternAddr_eq (p : Ppu) (plane : Bool) :
    patternAddr p.ctrl p.nextTileId (fineY p.vramAddr) plane =
      BitVec.ofNat 14 (tileRowAddr p + if plane then 8 else 0) := by
  have hctrl : (bgTable p.ctrl).toNat = (p.ctrl.getLsbD 4).toNat := extract_one_toNat _ _
  have htable : (p.ctrl.getLsbD 4).toNat * 4096 = if p.ctrl.getLsbD 4 then 4096 else 0 := by
    cases p.ctrl.getLsbD 4 <;> rfl
  have hplane : (if plane then 8 else 0 : PpuAddr).toNat = if plane then 8 else 0 := by
    cases plane <;> rfl
  apply BitVec.eq_of_toNat_eq
  simp only [patternAddr, tileRowAddr, ← htable, BitVec.toNat_add, BitVec.toNat_shiftLeft,
    BitVec.truncate_eq_setWidth, BitVec.toNat_setWidth, hctrl, hplane, fineY_toNat, Nat.shiftLeft_eq,
    BitVec.toNat_ofNat]
  omega

/-! ### The two layers (rules R430, R431) -/

/-- The colour of a sprite lane, as the model has it. -/
def lanePixel (l : Lane) : BitVec 2 := BitVec.ofBool (bit l.hi 7) ++ BitVec.ofBool (bit l.lo 7)

/-- Two bits as a number. -/
theorem twoBits_toNat (a b : Bool) : (BitVec.ofBool a ++ BitVec.ofBool b).toNat = 2 * a.toNat + b.toNat := by
  cases a <;> cases b <;> rfl

theorem lanePixel_toNat (l : Lane) : (lanePixel l).toNat = laneColour l := twoBits_toNat _ _

/-- What a sprite and its lane show. -/
def frontPixelOf (sp : Sprite) (l : Lane) (zero : Bool) : FrontPixel :=
  ⟨⟨lanePixel l, 1#1 ++ sp.attr.extractLsb' 0 2⟩, !bit sp.attr 5, zero⟩

theorem toNat_eq_zero_iff {n : Nat} (b : BitVec n) : b.toNat = 0 ↔ b = 0 :=
  ⟨fun h => BitVec.eq_of_toNat_eq (h.trans (Nat.zero_mod _).symm), fun h => by rw [h]; exact Nat.zero_mod _⟩

/-- A selected sprite with its lane and place shows a colour other than 0. -/
def shows (e : (Sprite × Lane) × Nat) : Bool := e.1.1.x == 0 && laneColour e.1.2 != 0

theorem shows_iff (sp : Sprite) (l : Lane) (n : Nat) : shows ((sp, l), n) = true ↔ sp.x = 0 ∧ lanePixel l ≠ 0 := by
  have hcolour : laneColour l ≠ 0 ↔ lanePixel l ≠ 0 := by
    rw [← lanePixel_toNat]
    exact not_congr (toNat_eq_zero_iff _)
  simp only [shows, Bool.and_eq_true, beq_iff_eq, bne_iff_ne, hcolour]

theorem firstOpaque_cons (sp : Sprite) (sps : List Sprite) (l : Lane) (ls : List Lane) (zero : Bool) :
    firstOpaque (sp :: sps) (l :: ls) zero =
      if sp.x = 0 ∧ lanePixel l ≠ 0 then frontPixelOf sp l zero else firstOpaque sps ls false := rfl

/-- The first opaque sprite is the first that shows, and is OAM entry 0 if it is at the head and the head is. -/
theorem firstOpaque_eq (sps : List Sprite) (ls : List Lane) (zero : Bool) (n : Nat) :
    firstOpaque sps ls zero =
      (((sps.zip ls).zipIdx n).find? shows).elim ⟨⟨0, 0⟩, false, false⟩ fun e =>
        frontPixelOf e.1.1 e.1.2 (zero && e.2 == n) := by
  induction sps generalizing ls zero n with
  | nil => rfl
  | cons sp sps ih =>
    cases ls with
    | nil => rfl
    | cons l ls =>
      rw [List.zip_cons_cons, List.zipIdx_cons, firstOpaque_cons]
      by_cases hshows : shows ((sp, l), n) = true
      · have hpixel := (shows_iff sp l n).1 hshows
        rw [if_pos hpixel, List.find?_cons_of_pos hshows, Option.elim_some, BEq.rfl, Bool.and_true]
      · have hpixel := (shows_iff sp l n).not.1 hshows
        rw [if_neg hpixel, List.find?_cons_of_neg hshows, ih ls false (n + 1)]
        cases hfound : ((sps.zip ls).zipIdx (n + 1)).find? shows with
        | none => rfl
        | some e =>
          have hplace : n + 1 ≤ e.2 := List.le_snd_of_mem_zipIdx (List.mem_of_find?_eq_some hfound)
          have hother : (e.2 == n) = false := beq_eq_false_iff_ne.2 (by omega)
          rw [Option.elim_some, Option.elim_some, hother, Bool.and_false, Bool.false_and]

/-- The foreground as the first sprite that shows. -/
theorem foregroundPixel_eq (p : Ppu) :
    foregroundPixel p =
      (foreground p p.cycle).elim ⟨⟨0, 0⟩, false, false⟩ fun e =>
        frontPixelOf e.1.1 e.1.2 (p.sprZeroSelected && e.2 == 0) := by
  unfold foregroundPixel
  by_cases hon : sprEn p.mask = true ∧ (sprLeft p.mask = true ∨ 9 ≤ p.cycle)
  · have hfg : foreground p p.cycle = (p.sprites.zip p.lanes).zipIdx.find? shows := if_pos hon
    rw [if_pos hon, firstOpaque_eq _ _ _ 0, hfg]
  · have hfg : foreground p p.cycle = none := if_neg hon
    rw [if_neg hon, hfg, Option.elim_none]

/-- A sprite in the foreground shows a colour other than 0. -/
theorem foreground_opaque {p : Ppu} {c : Nat} {e : (Sprite × Lane) × Nat} (h : foreground p c = some e) :
    lanePixel e.1.2 ≠ 0 := by
  unfold foreground at h
  split at h
  · exact ((shows_iff e.1.1 e.1.2 e.2).1 (List.find?_some h)).2
  · cases h

/-- The background on integers. -/
theorem backgroundPixel_eq (p : Ppu) :
    ((backgroundPixel p).pixel.toNat, (backgroundPixel p).palette.toNat) = background p p.cycle := by
  have hpalette (a b : Bool) : (0#1 ++ BitVec.ofBool a ++ BitVec.ofBool b).toNat = 2 * a.toNat + b.toNat := by
    cases a <;> cases b <;> rfl
  unfold backgroundPixel background
  by_cases hon : bgEn p.mask = true ∧ (bgLeft p.mask = true ∨ 9 ≤ p.cycle)
  · rw [if_pos hon, twoBits_toNat, hpalette]
    exact (if_pos hon).symm
  · rw [if_neg hon]
    exact (if_neg hon).symm

/-! ### The combination (rules R432, R434, R436) -/

/-- The place of a layer's pixel among the palette entries. -/
def LayerPixel.index (l : LayerPixel) : Nat := 4 * l.palette.toNat + l.pixel.toNat

theorem paletteAddr_eq (l : LayerPixel) : paletteAddr l = BitVec.ofNat 14 (0x3F00 + l.index) := by
  have hp := l.pixel.isLt
  have hjoin : (l.palette ++ l.pixel).toNat = l.index := by
    rw [BitVec.toNat_append, ← Nat.shiftLeft_add_eq_or_of_lt hp, Nat.shiftLeft_eq, LayerPixel.index]
    omega
  apply BitVec.eq_of_toNat_eq
  simp [paletteAddr, hjoin]

theorem frontPixelOf_index (sp : Sprite) (l : Lane) (zero : Bool) :
    (frontPixelOf sp l zero).layer.index = 4 * (4 + sp.attr.toNat % 4) + laneColour l := by
  have hpalette : (1#1 ++ sp.attr.extractLsb' 0 2 : BitVec 3).toNat = 4 + sp.attr.toNat % 4 := by
    have hlt := (sp.attr.extractLsb' 0 2).isLt
    rw [BitVec.toNat_append, ← Nat.shiftLeft_add_eq_or_of_lt hlt, BitVec.extractLsb'_toNat, Nat.shiftRight_zero]
    rfl
  rw [LayerPixel.index, frontPixelOf, lanePixel_toNat, hpalette]

/-- The combination table, by the place of the entry it names. -/
theorem combine_index (bg : LayerPixel) (fg : FrontPixel) :
    (combine bg fg).index =
      if bg.pixel = 0 then (if fg.layer.pixel = 0 then 0 else fg.layer.index)
      else if fg.layer.pixel = 0 ∨ fg.front = false then bg.index else fg.layer.index := by
  rw [combine]
  by_cases hbg : bg.pixel = 0
  · rw [if_pos hbg, if_pos hbg, apply_ite LayerPixel.index]
    rfl
  rw [if_neg hbg, if_neg hbg]
  by_cases hfg : fg.layer.pixel = 0
  · rw [if_pos hfg, if_pos (.inl hfg)]
  rw [if_neg hfg]
  cases hfront : fg.front with
  | false => rw [if_neg Bool.false_ne_true, if_pos (.inr rfl)]
  | true => rw [if_pos rfl, if_neg (by simpa using hfg)]

/-- The combination table names the palette entry shown. -/
theorem combine_eq_shownIndex (p : Ppu) :
    (combine (backgroundPixel p) (foregroundPixel p)).index = shownIndex p p.cycle := by
  rw [combine_index, foregroundPixel_eq]
  cases hfg : foreground p p.cycle with
  | none =>
    simp only [shownIndex, ← backgroundPixel_eq, hfg, Option.elim_none, toNat_eq_zero_iff, if_true, true_or]
    rfl
  | some e =>
    obtain ⟨⟨sp, l⟩, k⟩ := e
    have hopaque := foreground_opaque hfg
    have hpixel : ¬ (frontPixelOf sp l (p.sprZeroSelected && k == 0)).layer.pixel = 0 := hopaque
    simp only [shownIndex, ← backgroundPixel_eq, hfg, Option.elim_some, toNat_eq_zero_iff, if_neg hpixel,
      frontPixelOf_index]
    have hfront : (frontPixelOf sp l (p.sprZeroSelected && k == 0)).front = !sp.attr.getLsbD 5 := rfl
    simp only [hpixel, hfront, false_or]
    by_cases hbg : (backgroundPixel p).pixel = 0
    · rw [if_pos hbg, if_pos (.inl hbg)]
    · simp only [hbg, false_or, if_false]
      cases sp.attr.getLsbD 5 <;> rfl

/-- Sprite zero hit by the layers as shown. -/
theorem zeroHit_eq (p : Ppu) : zeroHit p (backgroundPixel p) (foregroundPixel p) = spriteZeroHit p p.cycle := by
  have hbg : ((backgroundPixel p).pixel != 0) = ((background p p.cycle).1 != 0) := by
    rw [← backgroundPixel_eq, Bool.eq_iff_iff, bne_iff_ne, bne_iff_ne]
    exact not_congr (toNat_eq_zero_iff _).symm
  rw [zeroHit, spriteZeroHit, hbg, foregroundPixel_eq, bgEn, sprEn, bit, bit]
  cases hfg : foreground p p.cycle with
  | none => simp
  | some e =>
    obtain ⟨⟨sp, l⟩, k⟩ := e
    have hopaque := foreground_opaque hfg
    have hpixel : ((frontPixelOf sp l (p.sprZeroSelected && k == 0)).layer.pixel != 0) = true := bne_iff_ne.2 hopaque
    have hzero : (frontPixelOf sp l (p.sprZeroSelected && k == 0)).zero = (p.sprZeroSelected && k == 0) := rfl
    simp only [Option.elim_some, hpixel, hzero, Bool.and_true]
    ac_rfl

/-- The 6-bit output on integers. -/
theorem pixelValue_eq (mask b : Byte) :
    pixelValue mask b =
      BitVec.ofNat 6 (if mask.getLsbD 0 then b.toNat % 64 / 16 * 16 else b.toNat % 64) := by
  have hgray : (b &&& 0x30).toNat = b.toNat % 64 / 16 * 16 :=
    (by decide : ∀ b : Byte, (b &&& 0x30).toNat = b.toNat % 64 / 16 * 16) b
  apply BitVec.eq_of_toNat_eq
  rw [pixelValue, gray, bit, BitVec.extractLsb'_toNat, Nat.shiftRight_zero, BitVec.toNat_ofNat]
  cases mask.getLsbD 0 with
  | false => simp
  | true => rw [if_pos rfl, if_pos rfl, hgray]

/-- The pixel of a dot and its sprite zero hit (rules R430 to R436). -/
theorem outputPixel_eq (s : State) :
    outputPixel s =
      let p := s.ppu
      let colour := (ppuRead s (BitVec.ofNat 14 (0x3F00 + shownIndex p p.cycle))).toNat % 64
      { s with
        ppu := { p with spr0Hit := p.spr0Hit || spriteZeroHit p p.cycle }
        pixel := some ⟨p.cycle - 1, p.scanline.toNat,
          BitVec.ofNat 6 (if p.mask.getLsbD 0 then colour / 16 * 16 else colour)⟩ } := by
  simp only [outputPixel, paletteAddr_eq, combine_eq_shownIndex, zeroHit_eq, pixelValue_eq]

/-- With both layers disabled the backdrop is shown. -/
theorem shownIndex_of_layersOff {p : Ppu} (h : layersOn p = false) (c : Nat) : shownIndex p c = 0 := by
  obtain ⟨hbgOff, hfgOff⟩ := Bool.or_eq_false_iff.1 h
  have hbg : background p c = (0, 0) := by simp only [background, hbgOff, Bool.false_eq_true, false_and, if_false]
  have hfg : foreground p c = none := by simp only [foreground, hfgOff, Bool.false_eq_true, false_and, if_false]
  simp only [shownIndex, hbg, hfg, if_true]

/-! ### The pipeline over a tick (rules R403, R405 to R409, R412) -/

/-- Shifting and loading on integers. -/
theorem shifterAfter_eq (s : State) (r : Word) (low : Byte) :
    shifterAfter s r low.toNat = shiftAndLoad (inPipe s && s.ppu.mask.getLsbD 3) (inPhase s 1) r low := by
  have hdouble : (r <<< 1).toNat = 2 * r.toNat % 65536 := by
    rw [BitVec.toNat_shiftLeft, Nat.shiftLeft_eq, Nat.pow_one, Nat.mul_comm]
  have hpage (w : Word) : (page w).toNat = w.toNat / 256 := by
    have := w.isLt
    rw [page, BitVec.extractLsb'_toNat, Nat.shiftRight_eq_div_pow]
    omega
  have hword (w : Word) : w = BitVec.ofNat 16 w.toNat := by rw [BitVec.ofNat_toNat, BitVec.setWidth_eq]
  rw [shifterAfter, shiftAndLoad, ← hdouble, ← apply_ite BitVec.toNat]
  cases inPhase s 1 with
  | false => exact (hword _).symm
  | true =>
    simp only [if_true, hilo_eq, hpage]

theorem eightCopies_eq (b : Bool) : eightCopies b = (spreadBit b).toNat := by cases b <;> rfl

/-- The four shift registers after a tick. -/
theorem ppuTick_shifters (s : State) :
    let p := s.ppu
    let q := (ppuTick s).ppu
    q.bgPatLo = shifterAfter s p.bgPatLo p.nextTileLsb.toNat ∧
    q.bgPatHi = shifterAfter s p.bgPatHi p.nextTileMsb.toNat ∧
    q.bgAttrLo = shifterAfter s p.bgAttrLo (eightCopies (p.nextTileAttr.getLsbD 0)) ∧
    q.bgAttrHi = shifterAfter s p.bgAttrHi (eightCopies (p.nextTileAttr.getLsbD 1)) := by
  simp only [eightCopies_eq, shifterAfter_eq]
  cases hline : renderable s.ppu with
  | false =>
    have hpipe : inPipe s = false := by simp only [inPipe, hline, Bool.false_and]
    rw [ppuTick_ppu_elsewhere hline, hpipe, inPhase_of_not_renderable hline]
    exact ⟨rfl, rfl, rfl, rfl⟩
  | true =>
    have hshifters := lineWork_shifters (lineStart s)
    rw [phaseAt_lineStart hline (by decide), lineStart_cfg, lineStart_ppu] at hshifters
    rw [ppuTick_ppu_renderable hline, inPipe_of_renderable hline]
    exact hshifters

/-- The four latches after a tick. -/
theorem ppuTick_latches (s : State) :
    let p := s.ppu
    let q := (ppuTick s).ppu
    let v := p.vramAddr
    let read := ppuRead (ppuTick s)
    q.nextTileId = (if inPhase s 1 then read (tileIdAddr v) else p.nextTileId) ∧
    q.nextTileAttr = (if inPhase s 3 then attributeQuadrant v (read (attributeAddr v)) else p.nextTileAttr) ∧
    q.nextTileLsb =
      (if inPhase s 5 then read (patternAddr p.ctrl p.nextTileId (fineY v) false) else p.nextTileLsb) ∧
    q.nextTileMsb =
      (if inPhase s 7 then read (patternAddr p.ctrl p.nextTileId (fineY v) true) else p.nextTileMsb) := by
  cases hline : renderable s.ppu with
  | false =>
    simp only [inPhase_of_not_renderable hline]
    rw [ppuTick_ppu_elsewhere hline]
    exact ⟨rfl, rfl, rfl, rfl⟩
  | true =>
    have hlatches := lineWork_latches (lineStart s)
    simp only [phaseAt_lineStart hline (by decide : 0 < 8), phaseAt_lineStart hline (by decide : 2 < 8),
      phaseAt_lineStart hline (by decide : 4 < 8), phaseAt_lineStart hline (by decide : 6 < 8),
      ppuRead_lineStart, lineStart_ppu] at hlatches
    obtain ⟨hid, hattr, hlsb, hmsb⟩ := hlatches
    have htick := ppuTick_ppu_renderable hline
    exact ⟨(congrArg Ppu.nextTileId htick).trans hid, (congrArg Ppu.nextTileAttr htick).trans hattr,
      (congrArg Ppu.nextTileLsb htick).trans hlsb, (congrArg Ppu.nextTileMsb htick).trans hmsb⟩

/-! ### The pixel over a tick (rules R400, R402, R434, R436) -/

theorem lineWork_frame (s : State) : LineFrame s (lineWork s) := (beforeFetch_frame s).trans (fetchPart_frame _).line

theorem lineWork_spr0Hit (s : State) :
    (lineWork s).ppu.spr0Hit = (s.ppu.spr0Hit && !decide (s.ppu.scanline = -1 ∧ s.ppu.cycle = 1)) := by
  simp only [lineWork, fetchPart_ppu, evaluationPart_ppu, transferYPart_ppu, transferXPart_ppu, incrementYPart_ppu,
    pipelinePart_ppu, clearPart_ppu]

theorem lineStart_pixel (s : State) : (lineStart s).pixel = none := (scanlineHook_frame _).2.2.2

/-- The tick finds a dot of the picture. -/
def visibleDot (p : Ppu) : Bool := visibleLine p && decide (1 ≤ dot p ∧ dot p ≤ 256)

theorem visibleDot_iff (p : Ppu) :
    visibleDot p = true ↔ 0 ≤ p.scanline ∧ p.scanline ≤ 239 ∧ 1 ≤ dot p ∧ dot p ≤ 256 := by
  simp only [visibleDot, visibleLine, Bool.and_eq_true, decide_eq_true_eq, and_assoc]

/-- The pixel part of a tick on a renderable line: one pixel on a dot of the picture. -/
theorem pixelPart_lineWork (s : State) :
    pixelPart (lineWork (lineStart s)) =
      if visibleDot s.ppu then outputPixel (lineWork (lineStart s)) else lineWork (lineStart s) := by
  have hframe := lineWork_frame (lineStart s)
  have hcycle := hframe.cycle
  have hline := hframe.scanline
  rw [lineStart_ppu] at hcycle hline
  simp only [pixelPart, hcycle, hline, visibleDot_iff]

/-- The pixel and sprite zero hit after a tick. -/
theorem ppuTick_pixel (s : State) :
    let p := s.ppu
    let q := (ppuTick s).ppu
    let c := dot p
    let colour := (ppuRead (ppuTick s) (BitVec.ofNat 14 (0x3F00 + shownIndex q c))).toNat % 64
    (ppuTick s).pixel =
      (if visibleDot p then
        some ⟨c - 1, p.scanline.toNat, BitVec.ofNat 6 (if p.mask.getLsbD 0 then colour / 16 * 16 else colour)⟩
      else none) ∧
    q.spr0Hit =
      ((p.spr0Hit && !decide (p.scanline = -1 ∧ c = 1)) || (visibleDot p && spriteZeroHit q c)) := by
  intro p q c colour
  cases hline : renderable p with
  | false =>
    have hnot := (not_renderable_iff p).1 hline
    have hvisible : visibleDot p = false := by
      rw [← Bool.not_eq_true, visibleDot_iff]
      omega
    have hclears : ¬ (p.scanline = -1 ∧ c = 1) := by omega
    rw [hvisible, decide_eq_false hclears, Bool.not_false, Bool.and_true, Bool.false_and, Bool.or_false]
    refine ⟨?_, (congrArg Ppu.spr0Hit (ppuTick_ppu_elsewhere hline)).trans rfl⟩
    rw [ppuTick_elsewhere hnot]
    exact (vblankPart_frame _).2.2.1.trans (lineStart_pixel s)
  | true =>
    have htick := ppuTick_renderable ((renderable_iff _).1 hline)
    rw [renderLine_tickStart] at htick
    have hpixel : (ppuTick s).pixel = (pixelPart (lineWork (lineStart s))).pixel :=
      (congrArg State.pixel htick).trans rfl
    have hhit : q.spr0Hit = (pixelPart (lineWork (lineStart s))).ppu.spr0Hit := by
      refine (congrArg (Ppu.spr0Hit ∘ State.ppu) htick).trans ?_
      simp only [Function.comp_apply, advanceCursor_eq]
    have hframe := lineWork_frame (lineStart s)
    have hmask := hframe.frame.mask
    have hcycle := hframe.cycle
    have hscanline := hframe.scanline
    have hhit' := lineWork_spr0Hit (lineStart s)
    rw [lineStart_ppu] at hmask hcycle hscanline hhit'
    have hread (a : PpuAddr) : ppuRead (lineWork (lineStart s)) a = ppuRead (ppuTick s) a :=
      (hframe.ppuRead a).trans (ppuRead_lineStart s a)
    have hshown : shownIndex (lineWork (lineStart s)).ppu c = shownIndex q c :=
      ((congrArg (shownIndex · c) (ppuTick_ppu_renderable hline)).trans rfl).symm
    have hzero : spriteZeroHit (lineWork (lineStart s)).ppu c = spriteZeroHit q c :=
      ((congrArg (spriteZeroHit · c) (ppuTick_ppu_renderable hline)).trans rfl).symm
    rw [hpixel, hhit, pixelPart_lineWork]
    cases hvisible : visibleDot s.ppu with
    | false =>
      simp only [p, Bool.false_eq_true, if_false, Bool.false_and, Bool.or_false]
      exact ⟨hframe.pixel.trans (lineStart_pixel s), hhit'⟩
    | true =>
      simp only [p, if_true, Bool.true_and, outputPixel_eq]
      simp only [hcycle, hscanline, hmask, hhit', hread]
      rw [hshown, hzero]
      exact ⟨rfl, rfl⟩

/-- Settles O50: the pipeline by `ppuTick_shifters` and `ppuTick_latches` with their addresses on integers, the pixel
and sprite zero hit by `ppuTick_pixel`. -/
theorem pixelOutput : Obligations.PixelOutput := by
  unfold Obligations.PixelOutput
  intro s p c v t read
  obtain ⟨hpixel, hhit⟩ := ppuTick_pixel s
  refine ⟨ppuTick_shifters s, ?latches, hpixel, hhit, fun hoff => ?backdrop⟩
  case latches =>
    have hlatches := ppuTick_latches s
    simp only [tileIdAddr_eq, attributeAddr_eq, attributeQuadrant_eq, patternAddr_eq] at hlatches
    exact hlatches
  case backdrop =>
    refine shownIndex_of_layersOff ?_ c
    rw [layersOn, (ppuTick_frame s).mask]
    exact hoff

end Sys2Proof.Machine
end

section
/-! PROOFS. The decoder against the encoder (spec/30_encoding.md rules R110 to R119, R132).  From an instruction the
encoder's opcode byte leads to the matrix entry that builds it; from an opcode byte the entry builds only instructions
that the encoder gives that byte (`entryOf_encodesAs`). -/

namespace Sys2Proof.Machine

open Sys2Proof.Claims

/-! ### Decoding what an entry builds, one lemma for each format (rule R111) -/

theorem decode_f1 {op : Byte} {i : Instr} (h : entryOf op = .f1 i) (rest : List Byte) :
    decode ([op] ++ rest) = .ok (i, rest) := by
  simp only [List.singleton_append, decode, h]

theorem decode_f2 {op : Byte} {f : Byte → Instr} (h : entryOf op = .f2 f) (d : Byte) (rest : List Byte) :
    decode ([op, d] ++ rest) = .ok (f d, rest) := by
  simp only [List.cons_append, List.nil_append, decode, h]

/-- The two bytes of the operand word are put together again. -/
theorem decode_f3 {op : Byte} {f : Word → Instr} (h : entryOf op = .f3 f) (w : Word) (rest : List Byte) :
    decode ([op, lowByte w, highByte w] ++ rest) = .ok (f w, rest) := by
  simp only [List.cons_append, List.nil_append, decode, h, assemble16_split]

/-- Decoding inverts encoding: for each instruction the encoder's opcode byte has the entry that builds it. -/
theorem decode_encode_append (i : Instr) (rest : List Byte) : decode (encode i ++ rest) = .ok (i, rest) := by
  cases i
  all_goals first
    | exact decode_f1 rfl rest
    | exact decode_f2 rfl _ rest
    | exact decode_f3 rfl _ rest

/-- Settles O1: `decode_encode_append`. -/
theorem decodeOfEncode : Obligations.DecodeOfEncode := by
  unfold Obligations.DecodeOfEncode
  exact decode_encode_append

/-- Settles O2: in each case of the decoder the entry encodes what it builds with the bytes read. -/
theorem encodeOfDecode : Obligations.EncodeOfDecode := by
  unfold Obligations.EncodeOfDecode
  intro bytes rest i h
  cases bytes with
  | nil => cases h
  | cons op tail =>
    have hencodes := entryOf_encodesAs op
    simp only [decode] at h
    split at h <;> cases h
    case h_2 j hentry =>
      rw [hentry] at hencodes
      rw [hencodes, List.singleton_append]
    case h_3 f d hentry =>
      rw [hentry] at hencodes
      rw [hencodes, List.cons_append, List.singleton_append]
    case h_4 f b1 b2 hentry =>
      rw [hentry] at hencodes
      rw [hencodes, lowByte_assemble16, highByte_assemble16]
      rfl

/-- A byte outside the 29 of rule R132, with two bytes after it, decodes. -/
theorem decode_of_defined {op : Byte} (h : op ∉ undefinedBytes) (b1 b2 : Byte) (rest : List Byte) :
    ∃ i left, decode (op :: b1 :: b2 :: rest) = .ok (i, left) := by
  rw [← entryOf_eq_none_iff] at h
  cases hentry : entryOf op
  case none => exact absurd hentry h
  case f1 i => exact ⟨i, b1 :: b2 :: rest, by simp only [decode, hentry]⟩
  case f2 f => exact ⟨f b1, b2 :: rest, by simp only [decode, hentry]⟩
  case f3 f => exact ⟨f (assemble16 b1 b2), rest, by simp only [decode, hentry]⟩

/-- Settles O3: the undefined bytes are those of the empty entries, and what decodes has the opcode byte read. -/
theorem undefinedBytesRefused : Obligations.UndefinedBytesRefused := by
  unfold Obligations.UndefinedBytesRefused
  intro op b1 b2 rest
  refine ⟨fun hundefined => ?refused, fun hdefined => ?decoded⟩
  case refused => simp only [decode, (entryOf_eq_none_iff op).2 hundefined]
  case decoded =>
    obtain ⟨i, left, hdecode⟩ := decode_of_defined hdefined b1 b2 rest
    exact ⟨i, left, hdecode, opcode_of_decode hdecode⟩

/-- Settles O4: each word by the decoder's own evaluation. -/
theorem wordsDecode : Obligations.WordsDecode := by
  unfold Obligations.WordsDecode
  exact ⟨rfl, rfl, rfl, rfl, rfl, rfl, rfl, rfl, rfl, rfl, rfl, rfl⟩

end Sys2Proof.Machine
end

section
/-! PROOFS. The invariant along a run (spec/10_state.md section 3, spec/61_clock_dma.md): it holds after power-on, and
every master tick and every host input keeps it.  `Storage` is carried through the parts of a tick; the break flag and
the countdown through the CPU tick; the phase is counted. -/

namespace Sys2Proof.Machine

/-! ### What a PPU tick does to the CPU (rule R404) -/

/-- A PPU tick changes at most the NMI latch of the CPU. -/
theorem ppuTick_cpu_nmiLatch (s : State) : ∃ latch, (ppuTick s).cpu = { s.cpu with nmiLatch := latch } := by
  by_cases hdot : s.ppu.scanline = 241 ∧ s.ppu.cycle = 1
  · obtain ⟨hline, hcycle⟩ := hdot
    rw [(ppuTick_at_vblankDot hline hcycle).1, ← (tickStart_ppu s).2]
    cases hread : (tickStart s).ppu.statusReadLastTick with
    | true => exact ⟨_, by rw [vblankStart_raced hread]⟩
    | false => exact ⟨_, (vblankStart_unread hread).2⟩
  · exact ⟨_, (ppuTick_off_vblankDot hdot).1⟩

/-! ### The storage invariant through a master tick -/

theorem Storage.ppuPart {s : State} (h : Storage s) : Storage (ppuPart s) := by
  unfold Machine.ppuPart
  split
  · exact h.ppuTick
  · exact ⟨h.ramWf, h.ppu, h.cartWf, h.fcPosLt⟩

theorem Storage.withCyc {s : State} (h : Storage s) (n : Nat) : Storage { s with cyc := n } :=
  ⟨h.ramWf, h.ppu, h.cartWf, h.fcPosLt⟩

/-- A CPU tick reaches its next state by register updates and bus accesses, and by telling the cartridge of an IRQ. -/
theorem Storage.cpuTick {s t : State} (h : Storage s) (ht : cpuTick s = .next t) : Storage t := by
  rcases cpuTick_cases s with ⟨-, e⟩ | ⟨-, -, e⟩ | ⟨-, -, -, -, e⟩ | ⟨-, -, -, e⟩ <;> rw [e] at ht
  · cases ht
    exact storage_closed.cpu _ _ h
  · cases ht
    exact storage_closed.cpu _ _ (h.interruptEntry _)
  · cases ht
    have hentry := h.interruptEntry Config.irqVector
    exact ⟨hentry.ramWf, hentry.ppu, Cart.wf_irqAck hentry.cartWf, hentry.fcPosLt⟩
  · rcases fetchExecute_cases s with ⟨i, u, -, -, hexec, hnext⟩ | hfault
    · rw [hnext] at ht
      cases ht
      exact storage_closed.exec hexec h.fetchInstr
    · rw [hfault] at ht
      cases ht

theorem Storage.cpuPart {s t : State} (h : Storage s) (ht : cpuPart s = .next t) : Storage t := by
  rcases cpuPart_next ht with ⟨-, rfl⟩ | ⟨-, -, rfl⟩ | ⟨-, -, u, hu, rfl⟩
  · exact h
  · exact h.dmaStep.withCyc _
  · exact (h.cpuTick hu).withCyc _

theorem Storage.finishTick {s : State} (h : Storage s) : Storage (finishTick s) := by
  have hapu : Storage (apuPart s) := by
    unfold apuPart
    split
    · exact h.apuStep
    · exact h
  exact ⟨hapu.ramWf, hapu.ppu, hapu.cartWf, hapu.fcPosLt⟩

/-! ### The break flag and the countdown through a master tick (rules R30, R34) -/

/-- What the invariant says of the CPU: the stored break flag is 0, the countdown bounded. -/
def Cpu.Settled (cfg : Config) (c : Cpu) : Prop := c.b = false ∧ c.waitCycles ≤ max 7 cfg.resetWait

theorem Cpu.Settled.cpuTick {s t : State} (h : s.cpu.Settled s.cfg) (ht : cpuTick s = .next t) :
    t.cpu.Settled s.cfg := by
  obtain ⟨hbreak, hwait⟩ := h
  have hentry : 6 ≤ max 7 s.cfg.resetWait := (by decide : 6 ≤ 7).trans (le_max_left _ _)
  rcases cpuTick_cases s with ⟨-, e⟩ | ⟨-, -, e⟩ | ⟨-, -, -, -, e⟩ | ⟨-, -, -, e⟩ <;> rw [e] at ht
  · cases ht
    exact ⟨hbreak, (Nat.sub_le _ _).trans hwait⟩
  · cases ht
    obtain ⟨target, hcpu⟩ := interruptEntry_cpu s Config.nmiVector
    simp only [Cpu.Settled, serviceNmi, withCpu_cpu, hcpu]
    exact ⟨trivial, hentry⟩
  · cases ht
    obtain ⟨target, hcpu⟩ := interruptEntry_cpu s Config.irqVector
    simp only [Cpu.Settled, serviceIrq, hcpu]
    exact ⟨trivial, hentry⟩
  · rcases fetchExecute_cases s with ⟨i, u, -, -, hexec, hnext⟩ | hfault
    · rw [hnext] at ht
      cases ht
      obtain ⟨hb, -, -, hle⟩ := exec_cpuFrame hexec
      rw [fetchInstr_cpu] at hb
      exact ⟨hb.trans hbreak, hle.trans (le_max_left _ _)⟩
    · rw [hfault] at ht
      cases ht

theorem Cpu.Settled.cpuPart {s t : State} (h : s.cpu.Settled s.cfg) (ht : cpuPart s = .next t) :
    t.cpu.Settled s.cfg := by
  rcases cpuPart_next ht with ⟨-, rfl⟩ | ⟨-, -, rfl⟩ | ⟨-, -, u, hu, rfl⟩
  · exact h
  · rwa [(dmaStep_frame s).2.1]
  · exact Cpu.Settled.cpuTick (t := u) h hu

/-! ### The configuration and the two counters through a master tick (rule R342) -/

theorem ppuPart_cpu_cfg (s : State) :
    (∃ latch, (ppuPart s).cpu = { s.cpu with nmiLatch := latch }) ∧ (ppuPart s).cfg = s.cfg := by
  unfold ppuPart
  split
  · exact ⟨ppuTick_cpu_nmiLatch s, (ppuTick_frame s).cfg⟩
  · exact ⟨⟨_, rfl⟩, rfl⟩

/-- The CPU or DMA part keeps the configuration and counts its tick on every third value of `master`. -/
theorem cpuPart_cfg_cyc {s t : State} (h : cpuPart s = .next t) :
    t.cfg = s.cfg ∧ t.cyc = s.cyc + if s.master % 3 = 0 then 1 else 0 := by
  rcases cpuPart_next h with ⟨hoff, rfl⟩ | ⟨hon, -, rfl⟩ | ⟨hon, -, u, hu, rfl⟩
  · exact ⟨rfl, by rw [if_neg hoff]; rfl⟩
  · have hframe := (dmaStep_frame s).1
    exact ⟨hframe.cfg, by rw [if_pos hon, hframe.cyc]⟩
  · have hframe := cpuTick_writeFrame hu
    exact ⟨hframe.cfg, by rw [if_pos hon, hframe.cyc]⟩

/-- The rest of a tick counts `master` and changes of the CPU the IRQ latch only. -/
theorem finishTick_fields (s : State) :
    (∃ latch, (finishTick s).cpu = { s.cpu with irqLatch := latch }) ∧ (finishTick s).cfg = s.cfg ∧
      (finishTick s).cyc = s.cyc ∧ (finishTick s).master = s.master + 1 := by
  rw [finishTick_eq]
  dsimp only
  split <;> exact ⟨⟨_, rfl⟩, rfl, rfl, rfl⟩

/-- Settles O59: the storage, the CPU and the phase, each through the three parts of the tick. -/
theorem stepKeepsInvariant : Obligations.StepKeepsInvariant := by
  unfold Obligations.StepKeepsInvariant
  intro s t hinv hstep
  rw [State.inv_iff] at hinv ⊢
  obtain ⟨hstorage, hbreak, hwait, hphase⟩ := hinv
  obtain ⟨u, hu, rfl⟩ := masterTick_next hstep
  obtain ⟨⟨nmi, hppuCpu⟩, hppuCfg⟩ := ppuPart_cpu_cfg s
  obtain ⟨hppuMaster, hppuCyc⟩ := ppuPart_counters s
  obtain ⟨hcpuCfg, hcpuCyc⟩ := cpuPart_cfg_cyc hu
  obtain ⟨⟨irq, hendCpu⟩, hendCfg, hendCyc, hendMaster⟩ := finishTick_fields u
  have hcfg : u.cfg = s.cfg := hcpuCfg.trans hppuCfg
  have hsettled : u.cpu.Settled (ppuPart s).cfg := by
    refine Cpu.Settled.cpuPart ?_ hu
    rw [hppuCpu, hppuCfg]
    exact ⟨hbreak, hwait⟩
  rw [hppuCfg] at hsettled
  obtain ⟨hbreak', hwait'⟩ := hsettled
  refine ⟨(hstorage.ppuPart.cpuPart hu).finishTick, ?flag, ?wait, ?phase⟩
  case flag => rw [hendCpu]; exact hbreak'
  case wait => rw [hendCpu, hendCfg, hcfg]; exact hwait'
  case phase =>
    rw [hendCyc, hendMaster, hcpuCyc, cpuPart_master hu, hppuMaster, hppuCyc, hphase]
    split <;> omega

/-! ### Power-on and the host's inputs (rules R65, R353, R500, R502) -/

theorem Cart.wf_afterCpuRead {c : Cart} (h : c.wf = true) (a : Word) : (c.afterCpuRead a).wf = true := by
  unfold Cart.afterCpuRead
  split
  · exact Cart.wf_readEffects h a
  · exact h

theorem ppuInv_powerOn {oam nametable palette : Memory} (hoam : oam.wf Config.oamSize = true)
    (hnametable : nametable.wf Config.nametableSize = true) (hpalette : palette.wf Config.paletteSize = true) :
    PpuInv (Ppu.powerOn oam nametable palette) where
  oamWf := hoam
  nametableWf := hnametable
  paletteWf := hpalette
  cycleLe := Nat.zero_le _
  scanlineGe := (by decide : (-1 : Int) ≤ 0)
  scanlineLe := (by decide : (0 : Int) ≤ 260)
  spritesLe := Nat.zero_le _
  lanesEq := rfl
  attrLt := (by decide : (0 : Nat) < 4)

/-- The invariant after power-on, whatever the configuration, for canonical memories. -/
theorem boot_inv (cfg : Config) {cart : Cart} {ram oam nametable palette : Memory} (hcart : cart.wf = true)
    (hram : ram.wf Config.ramSize = true) (hoam : oam.wf Config.oamSize = true)
    (hnametable : nametable.wf Config.nametableSize = true) (hpalette : palette.wf Config.paletteSize = true) :
    (boot cfg cart ram oam nametable palette).Inv := by
  have hcart' := Cart.wf_afterCpuRead (Cart.wf_afterCpuRead hcart 0xFFFC) 0xFFFD
  have hphase : 0 = (0 + 2) / 3 := by decide
  rw [State.inv_iff, boot_eq]
  exact ⟨⟨hram, ppuInv_powerOn hoam hnametable hpalette, hcart', Apu.frameLength_pos _⟩, rfl, le_max_right _ _,
    hphase⟩

/-- A reset request reads the vector and sets registers; its countdown is the configured one. -/
theorem resetProcedure_inv {s : State} (h : s.Inv) : (resetProcedure s).Inv := by
  have hcart := Cart.wf_afterCpuRead (Cart.wf_afterCpuRead h.cartWf 0xFFFC) 0xFFFD
  rw [resetProcedure_eq, resetVectorOnly_eq_cart]
  exact { h with cartWf := hcart, waitLe := le_max_right _ _ }

theorem hostInput_inv {s : State} (h : s.Inv) (i : HostInput) : (hostInput i s).Inv := by
  cases i with
  | reset => exact resetProcedure_inv h
  | buttons b0 b1 => exact { h with }
  | forcePc a => exact { h with }

theorem reachable_inv {s : State} (h : Reachable s) : s.Inv := by
  induction h with
  | boot cfg cart ram oam nametable palette hcart hram hoam hnt hpal => exact boot_inv cfg hcart hram hoam hnt hpal
  | step _ ht ih => exact stepKeepsInvariant _ _ ih ht
  | input i _ ih => exact hostInput_inv ih i

/-- Settles O60: `reachable_inv`, and bit 4 of the status byte is the stored break flag. -/
theorem reachableStatesMeetInvariant : Obligations.ReachableStatesMeetInvariant := by
  unfold Obligations.ReachableStatesMeetInvariant
  intro s h
  have hinv := reachable_inv h
  obtain ⟨-, -, -, hbit, -⟩ := pbyte_bits s.cpu s.cpu.b
  exact ⟨hinv, hbit.trans hinv.breakClear⟩

/-- Settles O58: `State.reset` is a power-on. -/
theorem invariantAtReset : Obligations.InvariantAtReset := by
  unfold Obligations.InvariantAtReset
  rw [reset_eq_boot]
  exact boot_inv _ (by decide) rfl rfl rfl rfl

end Sys2Proof.Machine
end

section
/-! PROOFS. The CPU tick and the fetch (spec/60_exceptions.md, spec/30_encoding.md section 2): what every instruction
leaves, the priority of the four branches, the countdown, what stops the machine, and a step as the instruction whose
bytes stand at `PC`. -/

namespace Sys2Proof.Machine

open Sys2Proof.Claims

/-! ### Every instruction -/

/-- Settles O28: `exec_next`, with the frames of executing. -/
theorem everyInstructionCompletes : Obligations.EveryInstructionCompletes := by
  unfold Obligations.EveryInstructionCompletes
  intro i s
  obtain ⟨t, ht⟩ := exec_next i s
  obtain ⟨hbreak, hnmi, hirq, hwait⟩ := exec_cpuFrame ht
  obtain ⟨hmaster, hcyc, hcfg, hpixel, hsound⟩ := exec_writeFrame ht
  exact ⟨t, ht, hbreak, hnmi, hirq, hwait, hmaster, hcyc, hcfg, hpixel, hsound⟩

/-! ### The branches of a CPU tick (rules R300, R303, R308) -/

theorem cpuTick_countdown {s : State} (h : 0 < s.cpu.waitCycles) :
    cpuTick s = .next (s.withCpu { s.cpu with waitCycles := s.cpu.waitCycles - 1 }) := by
  rw [cpuTick, if_pos h]
  rfl

theorem cpuTick_nmi {s : State} (hwait : s.cpu.waitCycles = 0) (hnmi : s.cpu.nmiLatch = true) :
    cpuTick s = .next (serviceNmi s) := by
  simp [cpuTick, hwait, hnmi]

theorem cpuTick_irq {s : State} (hwait : s.cpu.waitCycles = 0) (hnmi : s.cpu.nmiLatch = false)
    (hirq : s.cpu.irqLatch = true) (hi : s.cpu.i = false) : cpuTick s = .next (serviceIrq s) := by
  simp [cpuTick, hwait, hnmi, hirq, hi]

/-- Settles O30: one lemma for each branch; the registers after the two entries are those of `interruptEntry_cpu`. -/
theorem cpuTickPriority : Obligations.CpuTickPriority := by
  unfold Obligations.CpuTickPriority
  intro s
  refine ⟨cpuTick_countdown, fun hwait hnmi => ?nmi, fun hwait hnmi hirq hi => ?irq, cpuTick_of_readyToFetch⟩
  case nmi =>
    obtain ⟨target, hcpu⟩ := interruptEntry_cpu s 0xFFFA
    have hregs : (serviceNmi s).cpu = { (interruptEntry s 0xFFFA).cpu with nmiLatch := false } := rfl
    refine ⟨serviceNmi s, cpuTick_nmi hwait hnmi, rfl, hregs, ?_⟩
    rw [hregs, hcpu]
    exact ⟨rfl, rfl, rfl⟩
  case irq =>
    obtain ⟨target, hcpu⟩ := interruptEntry_cpu s 0xFFFE
    have hregs : (serviceIrq s).cpu = { (interruptEntry s 0xFFFE).cpu with irqLatch := false } := rfl
    refine ⟨serviceIrq s, cpuTick_irq hwait hnmi hirq hi, rfl, hregs, ?_, ?_, rfl⟩
    · rw [hregs, hcpu]
    · rw [hregs, hcpu]

/-- Settles O31, by induction on the number of ticks, each of which takes the countdown's branch. -/
theorem countdownTicksChangeNothing : Obligations.CountdownTicksChangeNothing := by
  unfold Obligations.CountdownTicksChangeNothing
  intro s k
  induction k generalizing s with
  | zero => exact fun _ => rfl
  | succ k ih =>
    intro hk
    have htick := cpuTick_countdown (s := s) (by omega)
    have hrest := ih (s.withCpu { s.cpu with waitCycles := s.cpu.waitCycles - 1 })
      (Nat.le_sub_of_add_le hk)
    rw [cpuTicks, htick]
    simp only [hrest, withCpu_cpu, withCpu_withCpu, Nat.sub_sub, Nat.add_comm 1 k]

/-! ### What stops the machine (rules R132, R260, R301) -/

/-- A fetch that faults has found a byte with no instruction, or one whose instruction is left out. -/
theorem undefined_of_fetchExecute_fault {s : State} {f : Fault} (h : fetchExecute s = .fault f) :
    f = .unknownOpcode (peek s s.cpu.pc) s.cpu.pc s ∧
      (peek s s.cpu.pc ∈ undefinedBytes ∨
        (peek s s.cpu.pc ∈ unofficialBytes ∧ peek s s.cpu.pc ∉ s.cfg.unofficialSet)) := by
  have hstops : peek s s.cpu.pc ∈ undefinedBytes ∨
      (peek s s.cpu.pc ∈ unofficialBytes ∧ peek s s.cpu.pc ∉ s.cfg.unofficialSet) := by
    by_contra hruns
    rw [not_or, not_and_not_right] at hruns
    obtain ⟨t, ht⟩ := fetchExecute_next hruns.1 hruns.2
    rw [h] at ht
    cases ht
  rw [fetchExecute_fault hstops] at h
  cases h
  exact ⟨rfl, hstops⟩

/-- A CPU tick never refuses, and only its fetch can fault. -/
theorem cpuTick_stops (s : State) :
    (∃ t, cpuTick s = .next t) ∨
      (readyToFetch s ∧ ∃ f, cpuTick s = .fault f ∧ fetchExecute s = .fault f) := by
  rcases cpuTick_cases s with ⟨-, e⟩ | ⟨-, -, e⟩ | ⟨-, -, -, -, e⟩ | ⟨hwait, hnmi, hirq, e⟩
  · exact .inl ⟨_, e⟩
  · exact .inl ⟨_, e⟩
  · exact .inl ⟨_, e⟩
  · rcases fetchExecute_cases s with ⟨i, t, -, -, -, hnext⟩ | hfault
    · exact .inl ⟨t, e.trans hnext⟩
    · exact .inr ⟨⟨hwait, hnmi, hirq⟩, _, e.trans hfault, hfault⟩

/-- The CPU or DMA part never refuses, and faults only where the CPU tick does. -/
theorem cpuPart_stops (s : State) :
    (∃ t, cpuPart s = .next t) ∨
      (s.master % 3 = 0 ∧ s.dma.transfer = false ∧ readyToFetch s ∧
        ∃ f, cpuPart s = .fault f ∧ fetchExecute s = .fault f) := by
  unfold cpuPart Config.cpuDiv
  by_cases hon : s.master % 3 = 0
  case neg => exact .inl ⟨s, if_neg hon⟩
  rw [if_pos hon]
  cases htransfer : s.dma.transfer with
  | true => exact .inl ⟨_, rfl⟩
  | false =>
    rw [if_neg Bool.false_ne_true]
    rcases cpuTick_stops s with ⟨t, ht⟩ | ⟨hready, f, hf, hfetch⟩
    · exact .inl ⟨_, by rw [ht]⟩
    · exact .inr ⟨hon, rfl, hready, f, by rw [hf], hfetch⟩

/-- Settles O33: a step stops only in its CPU part, by the fault of the fetch. -/
theorem onlyUnknownOpcodeStops : Obligations.OnlyUnknownOpcodeStops := by
  unfold Obligations.OnlyUnknownOpcodeStops
  intro s
  rcases cpuPart_stops (ppuPart s) with ⟨t, ht⟩ | ⟨hon, htransfer, hready, f, hf, hfetch⟩
  · have hstep : step s = .next (finishTick t) := by rw [step, masterTick, ht]
    rw [hstep]
    exact ⟨fun _ h => (nomatch h), fun _ h => (nomatch h)⟩
  · have hstep : step s = .fault f := by rw [step, masterTick, hf]
    rw [hstep]
    refine ⟨fun _ h => (nomatch h), fun g hg => ?_⟩
    cases hg
    obtain ⟨hfault, hbyte⟩ := undefined_of_fetchExecute_fault hfetch
    exact ⟨ppuPart s, rfl, hfault, (ppuPart_counters s).1 ▸ hon, htransfer, hready, hbyte⟩

/-! ### Fetching an instruction from addresses without read side effects (rules R84, R114) -/

/-- `n` calls of `Fetch()` at addresses whose reads change nothing: the bytes there, with `PC` past them. -/
theorem fetchBytes_quiet {s : State} {bytes : List Byte} (c : Cpu)
    (h : ∀ k, (hk : k < bytes.length) →
      peek s (c.pc + BitVec.ofNat 16 k) = bytes[k] ∧ readEffects s (c.pc + BitVec.ofNat 16 k) = s) :
    fetchBytes bytes.length (s.withCpu c) =
      (bytes, s.withCpu { c with pc := c.pc + BitVec.ofNat 16 bytes.length }) := by
  induction bytes generalizing c with
  | nil => simp [fetchBytes]
  | cons v vs ih =>
    obtain ⟨hbyte, hquiet⟩ := h 0 (Nat.succ_pos _)
    rw [BitVec.add_zero] at hbyte hquiet
    have hfirst : fetchByte (s.withCpu c) = (v, s.withCpu { c with pc := c.pc + 1#16 }) := by
      refine Prod.ext hbyte ?_
      rw [fetchByte_snd, withCpu_cpu, readEffects_withCpu, hquiet, withCpu_withCpu]
      rfl
    have hrest := ih { c with pc := c.pc + 1#16 } fun k hk => by
      have hnext := h (k + 1) (Nat.succ_lt_succ hk)
      rwa [← add_one_ofNat] at hnext
    simp only [add_one_ofNat] at hrest
    rw [List.length_cons, fetchBytes, hfirst]
    simp only [hrest]

/-- The opcode byte is the first byte of the encoding. -/
theorem encode_getElem_zero (i : Instr) (h : 0 < (encode i).length) : (encode i)[0] = opcode i := by
  unfold opcode
  revert h
  cases encode i with
  | nil => exact fun h => absurd h (Nat.lt_irrefl 0)
  | cons v vs => exact fun _ => rfl

/-- The fetch reads exactly the encoding that stands at `PC`. -/
theorem fetchInstr_encode {s : State} {i : Instr}
    (h : ∀ k, (hk : k < (encode i).length) →
      peek s (s.cpu.pc + BitVec.ofNat 16 k) = (encode i)[k] ∧ readEffects s (s.cpu.pc + BitVec.ofNat 16 k) = s) :
    fetchInstr s =
      (encode i, s.withCpu { s.cpu with pc := s.cpu.pc + BitVec.ofNat 16 (encode i).length }) := by
  have hlength : (encode i).length = operandCount (opcode i) + 1 := Laws.EncodedLength.every i
  have hfetch := fetchBytes_quiet s.cpu h
  have hopcode : peek s s.cpu.pc = opcode i := by
    have hfirst := (h 0 (by omega)).1
    rwa [BitVec.add_zero, encode_getElem_zero] at hfirst
  rw [withCpu_self, hlength, fetchBytes] at hfetch
  rw [fetchInstr, fetchByte_fst, hopcode, hlength]
  rwa [fetchByte_fst, hopcode] at hfetch

/-- Settles O34: the fetch reads the encoding, which decodes to the instruction and nothing left over. -/
theorem stepRunsDecodedInstruction : Obligations.StepRunsDecodedInstruction := by
  unfold Obligations.StepRunsDecodedInstruction
  intro s i p hon htransfer hready hadmitted hbytes
  obtain ⟨t, ht⟩ := exec_next i (p.withCpu { p.cpu with pc := p.cpu.pc + BitVec.ofNat 16 (encode i).length })
  have hdecode : decode (encode i) = .ok (i, []) := by simpa using decode_encode_append i []
  have hfetch : fetchExecute p = .next t := by
    simp only [fetchExecute, fetchInstr_encode hbytes, hdecode, if_pos hadmitted, ht]
  have hmaster : p.master % Config.cpuDiv = 0 := by rw [(ppuPart_counters s).1]; exact hon
  have hpart : cpuPart p = .next { t with cyc := t.cyc + 1 } := by
    rw [cpuPart, if_pos hmaster, htransfer, if_neg Bool.false_ne_true, cpuTick_of_readyToFetch hready, hfetch]
  exact ⟨t, ht, by rw [step, masterTick, hpart]⟩

end Sys2Proof.Machine
end

section
/-! PROOFS. Frames and bus side effects (spec/20_memory.md sections 3 and 4, spec/10_state.md section 1): what the forms
that store nothing and the pushing forms leave alone, and the addresses whose read changes the machine. -/

namespace Sys2Proof.Machine

open Sys2Proof.Claims

/-! ### States reached by register updates and bus reads -/

/-- `t` differs from `s` as register updates and bus reads can make it: `ReadFrame`, and a board is unchanged. -/
structure OnlyRead (s t : State) : Prop where
  frame : ReadFrame s t
  board : ∀ b, s.cart = .board b → t.cart = .board b

namespace OnlyRead

theorem refl (s : State) : OnlyRead s s := ⟨.refl s, fun _ h => h⟩

theorem withCpu {s t : State} (h : OnlyRead s t) (c : Cpu) : OnlyRead s (t.withCpu c) :=
  ⟨h.frame.withCpu c, h.board⟩

theorem read {s t : State} (h : OnlyRead s t) (a : Word) : OnlyRead s (readEffects t a) :=
  ⟨h.frame.trans (readEffects_frame t a), fun b hb => readEffects_board (h.board b hb) a⟩

theorem resolve (o : Operand) (s : State) : OnlyRead s (resolve o s).st :=
  ⟨resolve_frame o s, fun _ hb => resolve_board hb o⟩

/-- A read form reads its operand, and sets registers. -/
theorem runRead (base : Nat) (pen : Bool) (o : Operand) (f : Byte → Cpu → Cpu) (s : State) :
    OnlyRead s (runRead base pen o f s) := by
  rw [runRead_eq]
  refine withCpu ?_ _
  cases o with
  | imm d => exact resolve _ s
  | _ => exact (resolve _ s).read _

end OnlyRead

/-! ### The forms that store nothing -/

/-- Every reading row executes as a read form. -/
theorem readingRows_onlyRead {d : Byte} {w : Word} {r : Row} (hr : r ∈ readingRows d w) (s : State) :
    ∃ t, exec r.instr s = .next t ∧ OnlyRead s t := by
  obtain ⟨f, hrow⟩ : ∃ f, ReadRow f r := by
    obtain ⟨hadc, hsbc, hsbcEb, hand, hora, heor, hcmp, hcpx, hcpy, hbit⟩ := aluRows_read
    simp only [readingRows, List.mem_append, or_assoc] at hr
    rcases hr with h | h | h | h | h | h | h | h | h | h | h | h | h | h | h
    · exact ⟨_, ldaRows_read d w r h⟩
    · exact ⟨_, ldxRows_read d w r h⟩
    · exact ⟨_, ldyRows_read d w r h⟩
    · exact ⟨_, laxRows_read d w r h⟩
    · exact ⟨_, hadc d w r h⟩
    · exact ⟨_, hsbc d w r h⟩
    · exact ⟨_, hsbcEb d w r h⟩
    · exact ⟨_, hand d w r h⟩
    · exact ⟨_, hora d w r h⟩
    · exact ⟨_, heor d w r h⟩
    · exact ⟨_, hcmp d w r h⟩
    · exact ⟨_, hcpx d w r h⟩
    · exact ⟨_, hcpy d w r h⟩
    · exact ⟨_, hbit d w r h⟩
    · exact ⟨_, nopRows_read d w r h⟩
  exact ⟨_, hrow.exec_eq s, .runRead _ _ _ _ s⟩

theorem exec_pla_onlyRead (s : State) : ∃ t, exec .pla s = .next t ∧ OnlyRead s t := by
  rw [exec_pla, pop_setWait]
  exact ⟨_, rfl, (((OnlyRead.refl s).read _).withCpu _).withCpu _⟩

theorem exec_plp_onlyRead (s : State) : ∃ t, exec .plp s = .next t ∧ OnlyRead s t := by
  rw [exec_plp, pop_setWait]
  exact ⟨_, rfl, (((OnlyRead.refl s).read _).withCpu _).withCpu _⟩

theorem exec_jmpInd_onlyRead (w : Word) (s : State) : ∃ t, exec (.jmpInd w) s = .next t ∧ OnlyRead s t :=
  ⟨_, rfl, ((((OnlyRead.refl s).withCpu _).read w).read _).withCpu _⟩

theorem exec_rts_onlyRead (s : State) : ∃ t, exec .rts s = .next t ∧ OnlyRead s t := by
  rw [exec_rts]
  exact ⟨_, rfl, (((OnlyRead.refl s).read _).read _).withCpu _⟩

theorem exec_rti_onlyRead (s : State) : ∃ t, exec .rti s = .next t ∧ OnlyRead s t := by
  rw [exec_rti]
  exact ⟨_, rfl, ((((OnlyRead.refl s).read _).read _).read _).withCpu _⟩

/-- Every register form sets registers, after the reads of a pull or of an indirect jump's pointer. -/
theorem registerForms_onlyRead (d : Byte) (w : Word) (s : State) :
    ∀ i ∈ registerForms d w, ∃ t, exec i s = .next t ∧ OnlyRead s t := by
  have hregisters : ∀ c, OnlyRead s (s.withCpu c) := (OnlyRead.refl s).withCpu
  have hbranch : ∀ cond, OnlyRead s (runBranch 2 d cond s) := fun cond => by
    rw [runBranch_eq 2 (by decide)]
    exact hregisters _
  simp only [registerForms, List.forall_mem_cons, List.not_mem_nil, false_imp_iff, implies_true, and_true]
  and_intros
  all_goals first
    | exact exec_pla_onlyRead s
    | exact exec_plp_onlyRead s
    | exact exec_jmpInd_onlyRead w s
    | exact exec_rts_onlyRead s
    | exact exec_rti_onlyRead s
    | exact ⟨_, rfl, hbranch _⟩
    | exact ⟨_, rfl, hregisters _⟩

/-- Settles O25: the forms read the bus and set registers, so `OnlyRead` holds of what they answer. -/
theorem nonStoringFormsKeepMemory : Obligations.NonStoringFormsKeepMemory := by
  unfold Obligations.NonStoringFormsKeepMemory
  intro d w i hi s t hexec
  obtain ⟨u, hu, hframe, hboard⟩ : ∃ u, exec i s = .next u ∧ OnlyRead s u := by
    rcases List.mem_append.1 hi with hrow | hform
    · obtain ⟨r, hr, rfl⟩ := List.mem_map.1 hrow
      exact readingRows_onlyRead hr s
    · exact registerForms_onlyRead d w s i hform
  rw [hexec] at hu
  cases hu
  obtain ⟨hbreak, hnmi, hirq, -⟩ := exec_cpuFrame hexec
  exact ⟨hframe.ram, hframe.oam, hframe.nametable, hframe.palette, hframe.dma, hframe.master, hframe.cyc, hframe.cfg,
    hbreak, hnmi, hirq,
    fun b hb => ⟨hboard b hb, (SameCpuSpace.refl b).memoryKept hb (hboard b hb) hframe.ram _⟩⟩

/-! ### Pushes in work RAM (rule R21) -/

/-- Work RAM after bytes are pushed one by one from `sp` downwards. -/
def pushedBytes (m : Memory) (sp : Byte) : List Byte → Memory
  | [] => m
  | v :: vs => pushedBytes (m.write (256 + sp.toNat) v) (sp - 1) vs

theorem pushedFrame_eq_pushedBytes (m : Memory) (sp : Byte) (ret : Word) (status : Byte) :
    pushedFrame m sp ret status = pushedBytes m sp [highByte ret, lowByte ret, status] := by
  simp only [pushedFrame, pushedWord, pushedBytes, BitVec.ofNat_eq_ofNat, sub_one_one]

/-- Pushed bytes leave every cell but those at `sp - k`, for `k` below their number. -/
theorem read_pushedBytes_other {m : Memory} (h : m.wf Config.ramSize = true) (sp : Byte) (vs : List Byte) {a : Nat}
    (ha : ∀ k < vs.length, a ≠ 256 + (sp - BitVec.ofNat 8 k).toNat) : (pushedBytes m sp vs).read a = m.read a := by
  induction vs generalizing m sp with
  | nil => rfl
  | cons v vs ih =>
    have hhere : a ≠ 256 + sp.toNat := by simpa using ha 0 (Nat.succ_pos _)
    have hbelow : ∀ k < vs.length, a ≠ 256 + (sp - 1 - BitVec.ofNat 8 k).toNat := by
      intro k hk
      have hnext : sp - 1 - BitVec.ofNat 8 k = sp - BitVec.ofNat 8 (k + 1) := by
        rw [BitVec.sub_sub, Nat.add_comm, BitVec.ofNat_add]
        rfl
      rw [hnext]
      exact ha (k + 1) (Nat.succ_lt_succ hk)
    rw [pushedBytes, ih (wf_write_cell h sp v) (sp - 1) hbelow, Memory.read_write_other h hhere]

/-- A board that leaves the stack page to work RAM claims none of its cells. -/
theorem not_claimsCpu_cell {s : State} {b : Board} (hb : s.cart = .board b) (h : stackIsRam s) (sp : Byte) :
    ¬ b.claimsCpu (cell sp) = true := by
  have hdeclined := (h sp).1
  rw [stackAddr_eq_cell, hb, Cart.cpuTryRead] at hdeclined
  intro hclaims
  rw [if_pos hclaims] at hdeclined
  cases hdeclined

/-- Where only bytes have been pushed, every memory address but the mirrors of their cells reads as before. -/
theorem memoryKept_pushedBytes {s : State} {b : Board} (hb : s.cart = .board b) (h : stackIsRam s)
    (hram : s.ram.wf Config.ramSize = true) (vs : List Byte) (c : Cpu) :
    memoryKept b s ({ s with ram := pushedBytes s.ram s.cpu.s vs }.withCpu c) fun a =>
      ∃ k < vs.length, sameByte b a (cell (s.cpu.s - BitVec.ofNat 8 k)) := by
  intro a ha hother
  refine peek_memory_congr (t := { s with ram := pushedBytes s.ram s.cpu.s vs }) hb hb rfl ha (fun _ => rfl) ?_
  intro hunclaimed
  refine read_pushedBytes_other hram _ _ fun k hk hindex => hother ⟨k, hk, ?_⟩
  have hcell := cell_toNat (s.cpu.s - BitVec.ofNat 8 k)
  have hlow : (cell (s.cpu.s - BitVec.ofNat 8 k)).toNat < 0x2000 := by omega
  refine sameByte_of_ramIndex hunclaimed (not_claimsCpu_cell hb h _) (ha.resolve_right hunclaimed) hlow ?_
  rw [hindex, ramIndex, hcell, Config.ramSize]
  omega

/-- What a pushing form does where the stack page is work RAM: its bytes pushed, and registers set. -/
def Pushes (s : State) (vs : List Byte) (t : State) : Prop :=
  ∃ c : Cpu, c.s = s.cpu.s - BitVec.ofNat 8 vs.length ∧
    t = { s with ram := pushedBytes s.ram s.cpu.s vs }.withCpu c

theorem exec_pha_pushes {s : State} (h : stackIsRam s) : ∃ t, exec .pha s = .next t ∧ Pushes s [s.cpu.a] t := by
  rw [exec_pha, push_setWait, ← stackAddr_eq_cell, stack_write h]
  exact ⟨_, rfl, _, rfl, rfl⟩

theorem exec_php_pushes {s : State} (h : stackIsRam s) :
    ∃ t, exec .php s = .next t ∧ Pushes s [s.cpu.pbyte true] t := by
  rw [exec_php, push_setWait, ← stackAddr_eq_cell, stack_write h]
  exact ⟨_, rfl, _, rfl, rfl⟩

theorem exec_jsr_pushes {s : State} (h : stackIsRam s) (w : Word) :
    ∃ t, exec (.jsr w) s = .next t ∧ Pushes s [highByte (s.cpu.pc - 1), lowByte (s.cpu.pc - 1)] t := by
  rw [exec_jsr, stack_write_word h]
  exact ⟨_, rfl, _, rfl, rfl⟩

/-- The vector that BRK reads last lies above the ports, where a board's reads change nothing. -/
theorem exec_brk_pushes {s : State} {b : Board} (hb : s.cart = .board b) (h : stackIsRam s) :
    ∃ t, exec .brk s = .next t ∧
      Pushes s [highByte (s.cpu.pc + 1), lowByte (s.cpu.pc + 1), s.cpu.pbyte true] t := by
  have hquiet (m : Memory) {a : Word} (ha : 0x4018 ≤ a.toNat) :
      readEffects { s with ram := m } a = { s with ram := m } :=
    readEffects_board_quiet (s := { s with ram := m }) hb (.inr ha)
  rw [exec_brk, stack_write_word h, stack_write_ram h]
  simp only [hquiet _ (a := 0xFFFE) (by decide), hquiet _ (a := 0xFFFF) (by decide)]
  rw [← pushedFrame, pushedFrame_eq_pushedBytes]
  exact ⟨_, rfl, _, rfl, rfl⟩

/-- Settles O27: each form pushes its bytes into work RAM, `memoryKept_pushedBytes`. -/
theorem pushingFormsKeepOtherMemory : Obligations.PushingFormsKeepOtherMemory := by
  unfold Obligations.PushingFormsKeepOtherMemory
  intro w p hp s t b hb hstack hram hexec
  obtain ⟨vs, hlength, u, hu, c, hS, rfl⟩ :
      ∃ vs : List Byte, vs.length = p.2 ∧ ∃ u, exec p.1 s = .next u ∧ Pushes s vs u := by
    simp only [pushingForms, List.mem_cons, List.not_mem_nil, or_false] at hp
    rcases hp with rfl | rfl | rfl | rfl
    · exact ⟨_, rfl, exec_pha_pushes hstack⟩
    · exact ⟨_, rfl, exec_php_pushes hstack⟩
    · exact ⟨_, rfl, exec_jsr_pushes hstack w⟩
    · exact ⟨_, rfl, exec_brk_pushes hb hstack⟩
  rw [hexec] at hu
  cases hu
  rw [← hlength]
  exact ⟨memoryKept_pushedBytes hb hstack hram vs c, hS, rfl⟩

/-! ### The addresses whose read changes the machine (rule R83) -/

/-- A controller's read shifts zeros in (rule R351). -/
theorem Pad.afterRead_eq_double (p : Pad) : p.afterRead = { p with shift := BitVec.ofNat 8 (2 * p.shift.toNat) } := by
  rw [Pad.afterRead, shiftLeft_one_eq_double]

/-- Settles O36: the console bus's side effects by address; at port 7 the data port's. -/
theorem readSideEffects : Obligations.ReadSideEffects := by
  unfold Obligations.ReadSideEffects
  intro s a hdeclined
  have hconsole : readEffects s a = consoleReadEffects s a := by rw [readEffects, hdeclined]; rfl
  refine ⟨fun h => ?quiet, fun h2 h4 hport => ?status, fun h2 h4 hport => ?data, fun h => ?apu, fun h => ?pad0,
    fun h => ?pad1⟩
  case quiet =>
    rcases readEffects_cases s a with ⟨v, hclaimed, -⟩ |
      ⟨-, ⟨h2, h4, hport, -⟩ | ⟨ha, -⟩ | ⟨ha, -⟩ | ⟨ha, -⟩ | ⟨-, hkept⟩⟩
    · rw [hdeclined] at hclaimed
      cases hclaimed
    · omega
    · omega
    · omega
    · omega
    · exact hkept
  case status =>
    rw [hconsole, consoleReadEffects, if_neg (by omega), if_pos h4, hport]
    rfl
  case data =>
    rw [hconsole, consoleReadEffects, if_neg (by omega), if_pos h4, hport]
    rfl
  case apu =>
    rw [hconsole, consoleReadEffects, if_neg (by omega), if_neg (by omega), if_pos h]
    rfl
  case pad0 =>
    rw [hconsole, consoleReadEffects, if_neg (by omega), if_neg (by omega), if_neg (by omega), if_pos h,
      Pad.afterRead_eq_double]
  case pad1 =>
    rw [hconsole, consoleReadEffects, if_neg (by omega), if_neg (by omega), if_neg (by omega), if_neg (by omega),
      if_pos h, Pad.afterRead_eq_double]

end Sys2Proof.Machine
end

section
/-! PROOFS. How long an OAM DMA transfer takes (spec/61_clock_dma.md section 2).  From an even `cyc` each pair of ticks
reads and writes one byte, whatever the page holds; after `j` ticks the unit's address is `j / 2`, so the 512th wraps it
to 0; an odd `cyc` costs one tick before. -/

namespace Sys2Proof.Machine

open Sys2Proof.Claims

/-! ### One tick of a transfer (rule R346) -/

/-- A tick counts `cyc` and leaves the CPU alone. -/
theorem dmaTicks_one (s : State) :
    (dmaTicks 1 s).dma = (dmaStep s).dma ∧ (dmaTicks 1 s).cyc = s.cyc + 1 ∧ (dmaTicks 1 s).cpu = s.cpu :=
  ⟨rfl, congrArg (· + 1) (dmaStep_frame s).1.cyc, (dmaStep_frame s).2.1⟩

theorem dmaRead_dma (s : State) : ∃ v, (dmaRead s).dma = { s.dma with data := v } := by
  have hframe := readEffects_frame s (hilo s.dma.page s.dma.addr)
  rw [dmaRead, memRead_snd]
  dsimp only
  rw [hframe.dma]
  exact ⟨_, rfl⟩

/-- A reading tick sets the data register and clears the alignment flag. -/
theorem dmaStep_even_dma {s : State} (heven : s.cyc % 2 = 0) :
    ∃ v, (dmaStep s).dma = { s.dma with data := v, dummy := false } := by
  rw [dmaStep_even heven]
  exact dmaRead_dma _

/-- A writing tick moves the address on, and ends the transfer at a wrap. -/
theorem dmaStep_odd_dma {s : State} (hdummy : s.dma.dummy = false) (hodd : s.cyc % 2 = 1) :
    (dmaStep s).dma = s.dma.afterByte s.dma.data := by
  rw [dmaStep_odd hdummy hodd]
  rfl

/-- The alignment tick clears the alignment flag. -/
theorem dmaTicks_one_align {s : State} (hdummy : s.dma.dummy = true) (hodd : s.cyc % 2 = 1) :
    dmaTicks 1 s = { s with dma := { s.dma with dummy := false }, cyc := s.cyc + 1 } := by
  rw [dmaTicks, dmaTicks, dmaStep_align hdummy hodd]

/-! ### The ticks of a transfer -/

/-- `j` ticks of a transfer have passed since an even `cyc` of `s`, and it is still active. -/
structure Transferring (s : State) (j : Nat) (t : State) : Prop where
  transfer : t.dma.transfer = true
  addr : t.dma.addr = BitVec.ofNat 8 (j / 2)
  aligned : j % 2 = 1 → t.dma.dummy = false
  cyc : t.cyc = s.cyc + j
  cpu : t.cpu = s.cpu

/-- What the 512th tick leaves: the unit idle, its address back at 0. -/
structure Transferred (s t : State) : Prop where
  transfer : t.dma.transfer = false
  dummy : t.dma.dummy = true
  addr : t.dma.addr = 0
  cyc : t.cyc = s.cyc + 512
  cpu : t.cpu = s.cpu

variable {s t : State} {j : Nat}

theorem Transferring.next_even (heven : s.cyc % 2 = 0) (hj : j % 2 = 0) (h : Transferring s j t) :
    Transferring s (j + 1) (dmaTicks 1 t) := by
  obtain ⟨hstep, hcyc, hcpu⟩ := dmaTicks_one t
  obtain ⟨v, hdma⟩ := dmaStep_even_dma (s := t) (by rw [h.cyc]; omega)
  rw [hdma] at hstep
  have hhalf : (j + 1) / 2 = j / 2 := by omega
  exact
    { transfer := by rw [hstep]; exact h.transfer
      addr := by rw [hstep, hhalf]; exact h.addr
      aligned := fun _ => by rw [hstep]
      cyc := by rw [hcyc, h.cyc, Nat.add_assoc]
      cpu := hcpu.trans h.cpu }

/-- The address after the byte of an odd tick. -/
theorem Transferring.addr_succ (hj : j % 2 = 1) (h : Transferring s j t) :
    t.dma.addr + 1 = BitVec.ofNat 8 ((j + 1) / 2) := by
  have hhalf : (j + 1) / 2 = j / 2 + 1 := by omega
  rw [h.addr, hhalf, BitVec.ofNat_add]
  rfl

theorem Transferring.next_odd (heven : s.cyc % 2 = 0) (hj : j % 2 = 1) (hlt : j < 511) (h : Transferring s j t) :
    Transferring s (j + 1) (dmaTicks 1 t) := by
  obtain ⟨hstep, hcyc, hcpu⟩ := dmaTicks_one t
  have haddr := h.addr_succ hj
  have hnowrap : t.dma.addr + 1 ≠ 0 := by
    intro hwrap
    have hnat := congrArg BitVec.toNat (haddr.symm.trans hwrap)
    rw [BitVec.toNat_ofNat] at hnat
    simp at hnat
    omega
  rw [dmaStep_odd_dma (h.aligned hj) (by rw [h.cyc]; omega), Dma.afterByte, if_neg hnowrap] at hstep
  exact
    { transfer := by rw [hstep]; exact h.transfer
      addr := by rw [hstep]; exact haddr
      aligned := fun _ => by rw [hstep]
      cyc := by rw [hcyc, h.cyc, Nat.add_assoc]
      cpu := hcpu.trans h.cpu }

/-- The 512th tick wraps the address. -/
theorem Transferring.last (heven : s.cyc % 2 = 0) (h : Transferring s 511 t) : Transferred s (dmaTicks 1 t) := by
  obtain ⟨hstep, hcyc, hcpu⟩ := dmaTicks_one t
  have hwrap : t.dma.addr + 1 = 0 := h.addr_succ rfl
  rw [dmaStep_odd_dma (h.aligned rfl) (by rw [h.cyc]; omega), Dma.afterByte, if_pos hwrap] at hstep
  exact
    { transfer := by rw [hstep]
      dummy := by rw [hstep]
      addr := by rw [hstep]; exact hwrap
      cyc := by rw [hcyc, h.cyc]
      cpu := hcpu.trans h.cpu }

/-- From an even `cyc` a transfer is active for 511 more ticks. -/
theorem transferring_dmaTicks (heven : s.cyc % 2 = 0) (htransfer : s.dma.transfer = true) (haddr : s.dma.addr = 0)
    (hj : j ≤ 511) : Transferring s j (dmaTicks j s) := by
  induction j with
  | zero => exact ⟨htransfer, haddr, fun h => absurd h (by decide), rfl, rfl⟩
  | succ j ih =>
    have hbefore := ih (by omega)
    rw [dmaTicks_add]
    rcases Nat.mod_two_eq_zero_or_one j with hj' | hj'
    · exact hbefore.next_even heven hj'
    · exact hbefore.next_odd heven hj' (by omega)

/-- From an even `cyc` a transfer ends with its 512th tick. -/
theorem transferred_dmaTicks (heven : s.cyc % 2 = 0) (htransfer : s.dma.transfer = true) (haddr : s.dma.addr = 0) :
    Transferred s (dmaTicks 512 s) := by
  rw [show 512 = 511 + 1 from rfl, dmaTicks_add]
  exact (transferring_dmaTicks heven htransfer haddr le_rfl).last heven

/-- Before its first read a transfer waits for an even `cyc`: no tick or one, which changes neither the address nor the
CPU. -/
theorem dmaTicks_to_even (htransfer : s.dma.transfer = true) (hdummy : s.dma.dummy = true) :
    ∃ d, dmaTicks (s.cyc % 2) s = { s with dma := d, cyc := s.cyc + s.cyc % 2 } ∧ d.transfer = true ∧
      d.addr = s.dma.addr := by
  rcases Nat.mod_two_eq_zero_or_one s.cyc with heven | hodd
  · rw [heven]
    exact ⟨s.dma, rfl, htransfer, rfl⟩
  · rw [hodd, dmaTicks_one_align hdummy hodd]
    exact ⟨_, rfl, htransfer, rfl⟩

/-- Settles O38: the wait for an even `cyc`, then 512 ticks. -/
theorem dmaTransferLength : Obligations.DmaTransferLength := by
  unfold Obligations.DmaTransferLength
  intro s htransfer hdummy haddr n
  obtain ⟨d, hwait, hd, hdaddr⟩ := dmaTicks_to_even htransfer hdummy
  let u : State := { s with dma := d, cyc := s.cyc + s.cyc % 2 }
  have heven : u.cyc % 2 = 0 := by
    simp only [u]
    omega
  have hticks (j : Nat) : dmaTicks (s.cyc % 2 + j) s = dmaTicks j u := by rw [dmaTicks_add, hwait]
  have hrun {j : Nat} (hj : j ≤ 511) : Transferring u j (dmaTicks j u) :=
    transferring_dmaTicks heven hd (hdaddr.trans haddr) hj
  have hend : Transferred u (dmaTicks n s) := by
    rw [show n = s.cyc % 2 + 512 from Nat.add_comm _ _, hticks]
    exact transferred_dmaTicks heven hd (hdaddr.trans haddr)
  have hactive : ∀ k < n, (dmaTicks k s).dma.transfer = true ∧ (dmaTicks k s).cpu = s.cpu := by
    intro k hk
    by_cases hfirst : k < s.cyc % 2
    · have hzero : k = 0 := by omega
      rw [hzero]
      exact ⟨htransfer, rfl⟩
    · obtain ⟨j, rfl⟩ := Nat.exists_eq_add_of_le (Nat.not_lt.1 hfirst)
      have hj := hrun (j := j) (by simp only [n] at hk; omega)
      rw [hticks]
      exact ⟨hj.transfer, hj.cpu⟩
  refine ⟨fun k hk => (hactive k hk).1, hend.transfer, hend.dummy, hend.addr, ?cyc, fun k hk => ?cpu⟩
  case cyc =>
    rw [hend.cyc]
    simp only [u, n]
    omega
  case cpu =>
    rcases Nat.lt_or_eq_of_le hk with hlt | rfl
    · exact (hactive k hlt).2
    · exact hend.cpu

end Sys2Proof.Machine
end

section
/-! PROOFS. The length of a frame (spec/62_ppu.md section 3).  The cursor is the dot number that a tick moves on by one,
but by two from the first dot of line 0 where the odd-frame skip applies; so the dot number after `k` ticks is `k`, or
`k + 1` from tick 342 on in a frame that skips. -/

namespace Sys2Proof.Machine

open Sys2Proof.Claims

/-! ### The cursor as a dot number -/

/-- The cursor stands at dot `n` of the frame, counted from the first dot of the pre-render line. -/
def AtFrameDot (n : Nat) (p : Ppu) : Prop := p.scanline = n / 341 - 1 ∧ p.cycle = n % 341

/-- The frame leaves out the first dot of line 0 (rule R401). -/
def skipsDot (p : Ppu) : Bool := p.oddFrame && layersOn p

/-- What a tick does to the cursor: it advances from the dot acted on. -/
theorem ppuTick_cursor_eq (s : State) :
    (ppuTick s).ppu.cycle = (if 340 ≤ dot s.ppu then 0 else dot s.ppu + 1) ∧
    (ppuTick s).ppu.scanline =
      (if 340 ≤ dot s.ppu then (if 260 ≤ s.ppu.scanline then -1 else s.ppu.scanline + 1) else s.ppu.scanline) ∧
    (ppuTick s).ppu.oddFrame = (s.ppu.oddFrame != (decide (340 ≤ dot s.ppu) && decide (260 ≤ s.ppu.scanline))) := by
  obtain ⟨q, hq, hcycle, hscanline, hodd⟩ := ppuTick_cursor s
  rw [oddFrameSkip_cycle] at hcycle
  rw [hq, advanceCursor_eq, hcycle, hscanline, hodd]
  exact ⟨rfl, rfl, rfl⟩

/-- The dot acted on is the one found, but for the skip. -/
theorem dot_of_atFrameDot {n : Nat} {p : Ppu} (h : AtFrameDot n p) :
    dot p = if n = 341 ∧ skipsDot p = true then 1 else n % 341 := by
  obtain ⟨hscanline, hcycle⟩ := h
  have hfirst : n = 341 ↔ p.scanline = 0 ∧ p.cycle = 0 := by omega
  simp only [dot, skipsDot, hfirst, hcycle, Bool.and_eq_true, and_assoc]

/-- Inside the frame a tick keeps the parity, and whether the frame skips. -/
theorem ppuTick_oddFrame {n : Nat} {s : State} (h : AtFrameDot n s.ppu) (hn : n < 89341) :
    (ppuTick s).ppu.oddFrame = s.ppu.oddFrame ∧ skipsDot (ppuTick s).ppu = skipsDot s.ppu := by
  obtain ⟨-, -, hodd⟩ := ppuTick_cursor_eq s
  have hinside : ¬ (340 ≤ dot s.ppu ∧ 260 ≤ s.ppu.scanline) := by
    rw [dot_of_atFrameDot h]
    obtain ⟨hscanline, -⟩ := h
    split <;> omega
  rw [← Bool.decide_and, decide_eq_false hinside, Bool.bne_false] at hodd
  exact ⟨hodd, by rw [skipsDot, layersOn, hodd, (ppuTick_frame s).mask]; rfl⟩

/-- Inside the frame a tick moves the dot number on by one, or by two at the skip. -/
theorem ppuTick_atFrameDot {n : Nat} {s : State} (h : AtFrameDot n s.ppu) (hn : n < 89341) :
    AtFrameDot (if n = 341 ∧ skipsDot s.ppu = true then 343 else n + 1) (ppuTick s).ppu := by
  obtain ⟨hcycle, hscanline, -⟩ := ppuTick_cursor_eq s
  have hdot := dot_of_atFrameDot h
  obtain ⟨hline, -⟩ := h
  unfold AtFrameDot
  by_cases hskip : n = 341 ∧ skipsDot s.ppu = true
  · rw [if_pos hskip] at hdot ⊢
    split_ifs at hcycle hscanline <;> omega
  · rw [if_neg hskip] at hdot ⊢
    split_ifs at hcycle hscanline <;> omega

/-- The last dot of the frame leads to its first one, with the parity toggled. -/
theorem ppuTick_lastFrameDot {s : State} (h : AtFrameDot 89341 s.ppu) :
    AtFrameDot 0 (ppuTick s).ppu ∧ (ppuTick s).ppu.oddFrame = !s.ppu.oddFrame := by
  obtain ⟨hcycle, hscanline, hodd⟩ := ppuTick_cursor_eq s
  have hdot : dot s.ppu = 340 := by rw [dot_of_atFrameDot h, if_neg (by omega)]
  have hline : s.ppu.scanline = 260 := by
    rw [h.1]
    decide
  rw [hdot] at hcycle
  rw [hdot, hline] at hscanline hodd
  exact ⟨⟨hscanline, hcycle⟩, by rw [hodd]; exact Bool.bne_true _⟩

/-! ### The ticks of a frame -/

/-- Runs of ticks follow one another. -/
theorem ppuTicks_succ (k : Nat) (s : State) : ppuTicks (k + 1) s = ppuTick (ppuTicks k s) := by
  induction k generalizing s with
  | zero => rfl
  | succ k ih => rw [ppuTicks, ih, ppuTicks]

/-- The dot number after `k` ticks from dot 0. -/
def frameDot (skips : Bool) (k : Nat) : Nat := if skips = true ∧ 342 ≤ k then k + 1 else k

/-- Up to the last dot of the frame the cursor after `k` ticks stands at that dot, with the parity as at the start. -/
theorem ppuTicks_atFrameDot {s : State} (h : AtFrameDot 0 s.ppu) {k : Nat}
    (hk : frameDot (skipsDot s.ppu) k ≤ 89341) :
    AtFrameDot (frameDot (skipsDot s.ppu) k) (ppuTicks k s).ppu ∧
      (ppuTicks k s).ppu.oddFrame = s.ppu.oddFrame ∧ skipsDot (ppuTicks k s).ppu = skipsDot s.ppu := by
  induction k with
  | zero => exact ⟨by rwa [frameDot, if_neg (by omega)], rfl, rfl⟩
  | succ k ih =>
    have hnext : frameDot (skipsDot s.ppu) (k + 1) =
        if frameDot (skipsDot s.ppu) k = 341 ∧ skipsDot s.ppu = true then 343
        else frameDot (skipsDot s.ppu) k + 1 := by
      unfold frameDot
      cases skipsDot s.ppu
      · simp
      · simp only [true_and, and_true]
        split_ifs <;> omega
    have hbefore : frameDot (skipsDot s.ppu) k < 89341 := by
      rw [hnext] at hk
      split at hk <;> omega
    obtain ⟨hat, hodd, hskips⟩ := ih hbefore.le
    obtain ⟨hodd', hskips'⟩ := ppuTick_oddFrame hat hbefore
    have hat' := ppuTick_atFrameDot hat hbefore
    rw [hskips, ← hnext] at hat'
    rw [ppuTicks_succ]
    exact ⟨hat', hodd'.trans hodd, hskips'.trans hskips⟩

/-- Settles O47: `ppuTicks_atFrameDot` up to the last dot, then `ppuTick_lastFrameDot`. -/
theorem frameLength : Obligations.FrameLength := by
  unfold Obligations.FrameLength
  intro s hscanline hcycle n
  have hstart : AtFrameDot 0 s.ppu := ⟨hscanline, hcycle⟩
  have hn : n = if skipsDot s.ppu = true then 89341 else 89342 := rfl
  have hlast : frameDot (skipsDot s.ppu) (n - 1) = 89341 := by
    rw [hn, frameDot]
    cases skipsDot s.ppu <;> simp
  have hpos : n = n - 1 + 1 := by
    rw [hn]
    split <;> rfl
  have hbefore {k : Nat} (hk : k < n) : frameDot (skipsDot s.ppu) k ≤ 89341 := by
    rw [hn] at hk
    unfold frameDot
    by_cases hskips : skipsDot s.ppu = true
    · rw [if_pos hskips] at hk
      split <;> omega
    · rw [if_neg hskips] at hk
      rw [if_neg fun h => hskips h.1]
      omega
  obtain ⟨hat, hodd, -⟩ := ppuTicks_atFrameDot hstart hlast.le
  rw [hlast] at hat
  obtain ⟨hend, htoggled⟩ := ppuTick_lastFrameDot hat
  rw [← ppuTicks_succ, ← hpos] at hend htoggled
  refine ⟨fun k hpositive hk => ?_, hend.1, hend.2, by rw [htoggled, hodd]⟩
  obtain ⟨⟨hline, hcyc⟩, -, -⟩ := ppuTicks_atFrameDot hstart (hbefore hk)
  have hdot : 0 < frameDot (skipsDot s.ppu) k ∧ frameDot (skipsDot s.ppu) k ≤ 89341 :=
    ⟨by unfold frameDot; split <;> omega, hbefore hk⟩
  omega

end Sys2Proof.Machine
end

section
/-! PROOFS. The units of the APU on integers (spec/63_apu.md sections 2 to 4): length counters, envelopes and their
decay, the sweep unit. -/

namespace Sys2Proof.Machine

open Sys2Proof.Claims

/-! ### Bit fields and decrements as integers -/

theorem extractLsb'_eq_ofNat_div {n : Nat} (v : BitVec n) (start len : Nat) :
    v.extractLsb' start len = BitVec.ofNat len (v.toNat / 2 ^ start) := by
  apply BitVec.eq_of_toNat_eq
  rw [BitVec.extractLsb'_toNat, BitVec.toNat_ofNat, Nat.shiftRight_eq_div_pow]

theorem sub_one_eq_ofNat {n : Nat} {v : BitVec n} (h : v ≠ 0) : v - 1 = BitVec.ofNat n (v.toNat - 1) := by
  have hpos : 0 < v.toNat := Nat.pos_of_ne_zero fun hz => h ((toNat_eq_zero_iff v).1 hz)
  apply BitVec.eq_of_toNat_eq
  have hv := v.isLt
  have hone : (1 : BitVec n).toNat = 1 := by
    change (1#n).toNat = 1
    rw [BitVec.toNat_ofNat, Nat.mod_eq_of_lt (by omega)]
  rw [BitVec.toNat_sub_of_le (by rw [BitVec.le_def, hone]; exact hpos), hone, BitVec.toNat_ofNat,
    Nat.mod_eq_of_lt (by omega)]

/-! ### Length counters (rules R458, R459) -/

theorem Length.clock_eq_lengthAfter (l : Length) (halt : Bool) : l.clock halt = lengthAfter halt l := by
  unfold Length.clock lengthAfter
  cases halt with
  | true => rfl
  | false =>
    by_cases hzero : l.len = 0#8
    · cases l
      cases hzero
      rfl
    · rw [if_neg Bool.false_ne_true, ← sub_one_eq_ofNat hzero, if_pos (by simpa using hzero)]

theorem Length.load_eq_lengthLoaded (l : Length) (v : Byte) : l.load v = lengthLoaded v l := by
  have hcode : (lengthCode v).toNat = v.toNat / 8 := by
    have := v.isLt
    rw [lengthCode, extractLsb'_eq_ofNat_div, BitVec.toNat_ofNat]
    omega
  rw [Length.load, hcode]
  rfl

/-! ### Envelopes (rule R457) -/

theorem volOf_eq (control : Byte) : volOf control = BitVec.ofNat 4 control.toNat := by
  rw [volOf, extractLsb'_eq_ofNat_div, Nat.pow_zero, Nat.div_one]

theorem Envelope.refresh_eq_recomputed (control : Byte) (e : Envelope) : e.refresh control = recomputed control e := by
  rw [Envelope.refresh, volOf_eq]
  rfl

theorem Envelope.clock_eq_envelopeAfter (control : Byte) (e : Envelope) :
    e.clock control = envelopeAfter control e := by
  obtain ⟨start, divider, decay, output⟩ := e
  have hhalt : haltOf control = control.getLsbD 5 := rfl
  unfold Envelope.clock envelopeAfter
  rw [volOf_eq]
  simp only [toNat_eq_zero_iff, Envelope.refresh_eq_recomputed, hhalt]
  cases start with
  | true => rfl
  | false =>
    by_cases hdivider : divider = 0#4
    · by_cases hdecay : decay = 0#4
      · cases control.getLsbD 5 <;> simp [recomputed, hdivider, hdecay]
      · simp [recomputed, hdivider, hdecay, ← sub_one_eq_ofNat hdecay]
    · simp [recomputed, hdivider, ← sub_one_eq_ofNat hdivider]

/-- Runs of clocks follow one another. -/
theorem envelopeClocks_add (control : Byte) (m n : Nat) (e : Envelope) :
    envelopeClocks control (m + n) e = envelopeClocks control n (envelopeClocks control m e) := by
  induction m generalizing e with
  | zero => rw [Nat.zero_add, envelopeClocks]
  | succ m ih => rw [Nat.succ_add, envelopeClocks, envelopeClocks, ih]

/-- The level after a level: one lower, and from 0 the top again if the envelope loops. -/
def levelAfter (control : Byte) (level : Nat) : Nat :=
  if level = 0 then (if control.getLsbD 5 then 15 else 0) else level - 1

/-- The period of an envelope under a control byte is one more than this. -/
def volume (control : Byte) : Nat := control.toNat % 16

/-- The envelope has just reached a level: the divider is full. -/
structure AtLevel (control : Byte) (level : Nat) (e : Envelope) : Prop where
  start : e.start = false
  divider : e.divider.toNat = volume control
  decay : e.decay.toNat = level
  output : e.output = if control.getLsbD 4 then BitVec.ofNat 4 (volume control) else e.decay

theorem ofNat_volume (control : Byte) : BitVec.ofNat 4 (volume control) = BitVec.ofNat 4 control.toNat := by
  apply BitVec.eq_of_toNat_eq
  simp [volume]

/-- The restart clock reaches level 15. -/
theorem atLevel_restart {e : Envelope} (control : Byte) (h : e.start = true) :
    AtLevel control 15 (e.clock control) := by
  rw [Envelope.clock_eq_envelopeAfter]
  constructor
  · rfl
  · simp [envelopeAfter, h, volume]
  · simp [envelopeAfter, h]
  · simp [envelopeAfter, h, ofNat_volume]

/-- A clock with the divider above 0 counts it down and leaves the level. -/
theorem clock_countdown {e : Envelope} (control : Byte) (hstart : e.start = false) (hdivider : e.divider.toNat ≠ 0) :
    (e.clock control).start = false ∧ (e.clock control).divider.toNat = e.divider.toNat - 1 ∧
      (e.clock control).decay = e.decay := by
  have := e.divider.isLt
  rw [Envelope.clock_eq_envelopeAfter]
  refine ⟨rfl, ?_, ?_⟩
  · simp only [envelopeAfter, hstart, hdivider, Bool.false_eq_true, or_self, if_false, BitVec.toNat_ofNat]
    omega
  · simp [envelopeAfter, hstart, hdivider]

theorem envelopeClocks_countdown (control : Byte) {n : Nat} {e : Envelope} (hstart : e.start = false)
    (hn : n ≤ e.divider.toNat) :
    (envelopeClocks control n e).start = false ∧
      (envelopeClocks control n e).divider.toNat = e.divider.toNat - n ∧
      (envelopeClocks control n e).decay = e.decay := by
  induction n generalizing e with
  | zero => exact ⟨hstart, rfl, rfl⟩
  | succ n ih =>
    obtain ⟨h1, h2, h3⟩ := clock_countdown control hstart (by omega)
    obtain ⟨k1, k2, k3⟩ := ih h1 (by omega)
    exact ⟨k1, by rw [envelopeClocks, k2]; omega, k3.trans h3⟩

/-- A clock with the divider at 0 reaches the next level. -/
theorem atLevel_clock {e : Envelope} (control : Byte) (hstart : e.start = false) (hdivider : e.divider.toNat = 0) :
    AtLevel control (levelAfter control e.decay.toNat) (e.clock control) := by
  have := e.decay.isLt
  rw [Envelope.clock_eq_envelopeAfter]
  constructor
  · rfl
  · simp [envelopeAfter, hdivider, volume]
  · simp only [envelopeAfter, levelAfter, hstart, hdivider, BitVec.toNat_ofNat]
    by_cases hzero : e.decay.toNat = 0
    · cases control.getLsbD 5 <;> simp [hzero]
    · simp only [hzero, Bool.false_eq_true, if_true, if_false]
      omega
  · simp [envelopeAfter, hstart, hdivider, ofNat_volume]

/-- One period takes the envelope to the next level. -/
theorem AtLevel.next {control : Byte} {level : Nat} {e : Envelope} (h : AtLevel control level e) :
    AtLevel control (levelAfter control level) (envelopeClocks control (volume control + 1) e) := by
  obtain ⟨h1, h2, h3⟩ := envelopeClocks_countdown control h.start h.divider.ge
  rw [envelopeClocks_add, ← h.decay, ← h3]
  exact atLevel_clock control h1 (by rw [h2, h.divider, Nat.sub_self])

/-- `k` periods after the restart the level is `15 - k`. -/
theorem atLevel_periods {control : Byte} {e : Envelope} (h : AtLevel control 15 e) {k : Nat} (hk : k ≤ 15) :
    AtLevel control (15 - k) (envelopeClocks control (k * (volume control + 1)) e) := by
  induction k with
  | zero => rwa [Nat.zero_mul]
  | succ k ih =>
    have hnext := (ih (by omega)).next
    rw [levelAfter, if_neg (by omega)] at hnext
    rw [Nat.succ_mul, envelopeClocks_add]
    exact hnext

/-- Settles O52: the restart clock, then `atLevel_periods`; the sixteenth period starts at level 0. -/
theorem envelopeDecays : Obligations.EnvelopeDecays := by
  unfold Obligations.EnvelopeDecays
  refine ⟨fun e control => e.clock_eq_envelopeAfter control, ?_⟩
  intro e control k hstart hk vol t
  have hrestart := atLevel_restart control hstart
  have hlevel : AtLevel control (15 - k) t := by
    simp only [t]
    rw [envelopeClocks_add]
    exact atLevel_periods hrestart hk
  refine ⟨hlevel.decay, hlevel.start, hlevel.output, ?_⟩
  have hbottom := (atLevel_periods hrestart (le_refl 15)).next
  have hsixteen : 1 + 16 * (vol + 1) = 1 + 15 * (vol + 1) + (vol + 1) := by omega
  rw [hsixteen, envelopeClocks_add, envelopeClocks_add control 1]
  exact hbottom.decay

/-! ### The sweep unit (rules R464, R465) -/

theorem swShift_toNat (p : Pulse) : p.swShift.toNat = p.sweep.toNat % 8 := by
  rw [Pulse.swShift, extractLsb'_eq_ofNat_div, BitVec.toNat_ofNat, Nat.pow_zero, Nat.div_one]

theorem swPeriod_eq (p : Pulse) : p.swPeriod = BitVec.ofNat 3 (p.sweep.toNat / 16) := extractLsb'_eq_ofNat_div _ 4 3

/-- The target never leaves the naturals. -/
theorem sweepTarget_eq_target (first : Bool) (p : Pulse) : ((p.sweepTarget first : Nat) : Int) = target first p := by
  have hnegate : p.swNegate = p.sweep.getLsbD 3 := rfl
  have hchange : ((p.timer.toNat / 2 ^ (p.sweep.toNat % 8) : Nat) : Int) =
      (p.timer.toNat : Int) / 2 ^ (p.sweep.toNat % 8) := by
    rw [Int.natCast_ediv, Nat.cast_pow]
    rfl
  simp only [Pulse.sweepTarget, target, swShift_toNat, Nat.shiftRight_eq_div_pow, hnegate, ← hchange]
  split
  · split <;> omega
  · omega

theorem sweepMute_eq (first : Bool) (p : Pulse) :
    p.sweepMute first = decide (p.timer.toNat < 8 ∨ 0x7FF < target first p) := by
  have htarget : p.sweepTarget first > 0x7FF ↔ 0x7FF < target first p := by
    rw [← sweepTarget_eq_target]
    omega
  rw [Pulse.sweepMute, Bool.decide_or]
  simp only [htarget]

/-- The timer moves under the conditions of rule R465. -/
abbrev sweepMoves (first : Bool) (p : Pulse) : Prop :=
  p.swDivider = 0 ∧ p.sweep.getLsbD 7 = true ∧ p.sweep.toNat % 8 ≠ 0 ∧
    ¬ (p.timer.toNat < 8 ∨ 0x7FF < target first p)

theorem sweepMoves_iff (first : Bool) (p : Pulse) :
    (p.swDivider = 0 ∧ p.swEnabled = true ∧ p.swShift ≠ 0 ∧ p.sweepMute first = false) ↔
      sweepMoves first p := by
  have hshift : p.swShift ≠ 0 ↔ p.sweep.toNat % 8 ≠ 0 := by rw [← swShift_toNat, Ne, Ne, toNat_eq_zero_iff]
  rw [sweepMute_eq, decide_eq_false_iff_not, hshift]
  rfl

/-- A clock changes the timer, the divider and the reload flag only. -/
theorem clockSweep_eq (first : Bool) (p : Pulse) :
    p.clockSweep first = { p with
      timer := (p.clockSweep first).timer
      swDivider :=
        if p.swDivider = 0 ∨ p.swReload = true then BitVec.ofNat 3 (p.sweep.toNat / 16) else p.swDivider - 1
      swReload := false } := by
  unfold Pulse.clockSweep
  rw [swPeriod_eq]
  by_cases hreload : p.swDivider = 0 ∨ p.swReload = true
  · simp only [if_pos hreload]
  · have hflag : p.swReload = false := by
      rw [not_or] at hreload
      exact Bool.eq_false_of_not_eq_true hreload.2
    simp only [if_neg hreload]
    simp only [hflag]

theorem clockSweep_timer (first : Bool) (p : Pulse) :
    ((p.clockSweep first).timer.toNat : Int) =
      if sweepMoves first p then target first p else p.timer.toNat := by
  have htimer : (p.clockSweep first).timer =
      if p.swDivider = 0 ∧ p.swEnabled = true ∧ p.swShift ≠ 0 ∧ p.sweepMute first = false
      then BitVec.ofNat 11 (p.sweepTarget first) else p.timer := by
    unfold Pulse.clockSweep
    simp only [apply_ite Pulse.timer, ite_self]
  rw [htimer]
  by_cases hmoves : sweepMoves first p
  · have hsmall : p.sweepTarget first < 2 ^ 11 := by
      have := sweepTarget_eq_target first p
      obtain ⟨-, -, -, hmute⟩ := hmoves
      omega
    rw [if_pos ((sweepMoves_iff first p).2 hmoves), if_pos hmoves, BitVec.toNat_ofNat, Nat.mod_eq_of_lt hsmall,
      sweepTarget_eq_target]
  · rw [if_neg fun h => hmoves ((sweepMoves_iff first p).1 h), if_neg hmoves]

/-- Settles O53: the target and the mute on integers, the timer by `sweepMoves`, the rest by `clockSweep_eq`. -/
theorem sweepMovesTimer : Obligations.SweepMovesTimer := by
  unfold Obligations.SweepMovesTimer
  intro first p mute t
  exact ⟨sweepTarget_eq_target first p, sweepMute_eq first p, clockSweep_timer first p, clockSweep_eq first p⟩

end Sys2Proof.Machine
end

section
/-! PROOFS. The APU as a whole (spec/63_apu.md): the frame sequencer's clocks as `clocked`, the output tuple, the
register writes as `written`, the status byte, and the length counters of disabled channels. -/

namespace Sys2Proof.Machine

open Sys2Proof.Claims

/-! ### The clocks of the frame sequencer (rules R454, R455) -/

/-- A sweep clock does not depend on the envelope and the length counter, and keeps them. -/
theorem clockSweep_withUnits (first : Bool) (p : Pulse) (e : Envelope) (l : Length) :
    ({ p with envelope := e, length := l } : Pulse).clockSweep first =
      { p.clockSweep first with envelope := e, length := l } := by
  unfold Pulse.clockSweep
  by_cases hreload : p.swDivider = 0 ∨ p.swReload = true
  · simp only [if_pos hreload]
    rfl
  · simp only [if_neg hreload]
    rfl

theorem Triangle.clockLinear_eq (t : Triangle) :
    t.clockLinear =
      { t with
        linearCounter :=
          BitVec.ofNat 7 (if t.linearReload then t.linear.toNat else t.linearCounter.toNat - 1)
        linearReload := t.linearReload && t.linear.getLsbD 7 } := by
  have hreload : t.reloadValue = BitVec.ofNat 7 t.linear.toNat := by
    rw [Triangle.reloadValue, extractLsb'_eq_ofNat_div, Nat.pow_zero, Nat.div_one]
  unfold Triangle.clockLinear
  rw [hreload]
  cases hflag : t.linearReload with
  | true => rfl
  | false =>
    by_cases hzero : t.linearCounter = 0#7
    · simp [hzero, Triangle.control, bit]
    · simp [hzero, Triangle.control, bit, ← sub_one_eq_ofNat hzero]

theorem quarterFrame_eq_clocked (a : Apu) : a.quarterFrame = clocked true false a := by
  simp only [Apu.quarterFrame, Pulse.clockEnvelope, Noise.clockEnvelope, Envelope.clock_eq_envelopeAfter,
    Triangle.clockLinear_eq, clocked]
  simp

theorem halfFrame_eq_clocked (a : Apu) : a.halfFrame = clocked false true a := by
  have hpulse (first : Bool) (p : Pulse) : p.clockLength.clockSweep first =
      { p.clockSweep first with envelope := p.envelope, length := lengthAfter (p.control.getLsbD 5) p.length } := by
    rw [Pulse.clockLength, Length.clock_eq_lengthAfter]
    exact clockSweep_withUnits first p p.envelope _
  simp only [Apu.halfFrame, hpulse, Triangle.clockLength, Noise.clockLength, Length.clock_eq_lengthAfter, clocked]
  simp [Triangle.control, haltOf, bit]

theorem ofNat_mod_self (w n : Nat) : BitVec.ofNat w (n % 2 ^ w) = BitVec.ofNat w n :=
  BitVec.eq_of_toNat_eq (by simp)

theorem clocked_clocked (a : Apu) : clocked false true (clocked true false a) = clocked true true a := by
  simp only [clocked, clockSweep_withUnits, Bool.false_eq_true, if_true, if_false, BitVec.toNat_ofNat, Bool.false_and,
    Bool.not_false, Bool.and_true, ofNat_mod_self]

theorem clocked_neither (a : Apu) : clocked false false a = a := by
  simp [clocked]

/-- The quarter-frame clock comes first. -/
theorem clocked_eq (quarter half : Bool) (a : Apu) :
    (if half then (if quarter then a.quarterFrame else a).halfFrame else if quarter then a.quarterFrame else a) =
      clocked quarter half a := by
  cases quarter <;> cases half
  · exact (clocked_neither a).symm
  · exact halfFrame_eq_clocked a
  · exact quarterFrame_eq_clocked a
  · rw [← clocked_clocked, ← quarterFrame_eq_clocked, ← halfFrame_eq_clocked]
    rfl

/-! ### An APU step (rules R452, R453, R456) -/

/-- The length of a frame in the current mode. -/
def frameEnd (a : Apu) : Nat := if a.fcMode then 18641 else 14915

theorem isQuarter_eq (pos len : Nat) : Apu.isQuarter pos len = decide (pos ∈ [3729, 7457, 11186, len]) := by
  simp [Apu.isQuarter, Bool.or_assoc, Bool.beq_eq_decide_eq]

theorem isHalf_eq (pos len : Nat) : Apu.isHalf pos len = decide (pos ∈ [7457, len]) := by
  simp [Apu.isHalf, Bool.beq_eq_decide_eq]

theorem step_eq_clocked (a : Apu) :
    a.step =
      { clocked (decide (a.fcPos + 1 ∈ [3729, 7457, 11186, frameEnd a]))
          (decide (a.fcPos + 1 ∈ [7457, frameEnd a])) a with
        fcPos := if a.fcPos + 1 = frameEnd a then 0 else a.fcPos + 1
        frameIrq := a.frameIrq || (decide (a.fcPos + 1 = frameEnd a) && !a.fcMode && !a.fcIrqInhibit) } := by
  have hlen : a.frameLength = frameEnd a := rfl
  simp only [Apu.step, hlen, isQuarter_eq, isHalf_eq, clocked_eq]
  by_cases hend : a.fcPos + 1 = frameEnd a
  · rw [if_pos hend, if_pos hend, decide_eq_true hend, Bool.true_and]
    rfl
  · rw [if_neg hend, if_neg hend, decide_eq_false hend, Bool.false_and, Bool.false_and, Bool.or_false]
    rfl

theorem step_fcMode (a : Apu) : a.step.fcMode = a.fcMode := by
  rw [step_eq_clocked]
  rfl

theorem step_fcIrqInhibit (a : Apu) : a.step.fcIrqInhibit = a.fcIrqInhibit := by
  rw [step_eq_clocked]
  rfl

theorem step_fcPos (a : Apu) : a.step.fcPos = if a.fcPos + 1 = frameEnd a then 0 else a.fcPos + 1 := by
  rw [step_eq_clocked]

theorem step_frameIrq (a : Apu) :
    a.step.frameIrq = (a.frameIrq || (decide (a.fcPos + 1 = frameEnd a) && !a.fcMode && !a.fcIrqInhibit)) := by
  rw [step_eq_clocked]

/-! ### The output tuple (rules R466, R487) -/

theorem append_eq_ofNat {m n : Nat} (x : BitVec m) (y : BitVec n) :
    x ++ y = BitVec.ofNat (m + n) (x.toNat * 2 ^ n + y.toNat) := by
  have happend : (x ++ y).toNat = x.toNat * 2 ^ n + y.toNat := by
    rw [BitVec.toNat_append, ← Nat.shiftLeft_add_eq_or_of_lt y.isLt, Nat.shiftLeft_eq]
  apply BitVec.eq_of_toNat_eq
  rw [BitVec.toNat_ofNat, ← happend, Nat.mod_eq_of_lt (x ++ y).isLt]

theorem Pulse.amplitude_eq (first : Bool) (p : Pulse) :
    p.amplitude first =
      if p.envelope.output.toNat ≤ 2 ∨ p.length.len = 0 ∨ p.timer.toNat < 8 ∨ 0x7FF < target first p then 0
      else p.envelope.output := by
  have htarget : p.sweepTarget first > 0x7FF ↔ 0x7FF < target first p := by
    rw [← sweepTarget_eq_target]
    omega
  simp only [Pulse.amplitude, htarget]

theorem Triangle.timer_eq (t : Triangle) :
    t.timer = BitVec.ofNat 11 (t.timerHigh.toNat * 256 + t.timerLow.toNat) := by
  rw [Triangle.timer, append_eq_ofNat, extractLsb'_eq_ofNat_div]
  apply BitVec.eq_of_toNat_eq
  simp only [BitVec.toNat_ofNat]
  omega

theorem Noise.periodIndex_toNat (n : Noise) : n.periodIndex.toNat = n.period.toNat % 16 := by
  rw [Noise.periodIndex, extractLsb'_eq_ofNat_div, BitVec.toNat_ofNat, Nat.pow_zero, Nat.div_one]

theorem sample_eq_soundOf (a : Apu) : a.sample = soundOf a := by
  have hduty (p : Pulse) : p.duty = BitVec.ofNat 2 (p.control.toNat / 64) := extractLsb'_eq_ofNat_div _ 6 2
  simp only [Apu.sample, Pulse.out, Triangle.out, Noise.out, hduty, Pulse.amplitude_eq, Triangle.timer_eq,
    Noise.periodIndex_toNat]
  rfl

/-! ### The frame interrupt -/

theorem apuSteps_succ (n : Nat) (a : Apu) : apuSteps (n + 1) a = (apuSteps n a).step := by
  induction n generalizing a with
  | zero => rfl
  | succ n ih => rw [apuSteps, ih, apuSteps]

theorem apuSteps_fcMode (n : Nat) (a : Apu) : (apuSteps n a).fcMode = a.fcMode := by
  induction n with
  | zero => rfl
  | succ n ih => rw [apuSteps_succ, step_fcMode, ih]

theorem apuSteps_fcIrqInhibit (n : Nat) (a : Apu) : (apuSteps n a).fcIrqInhibit = a.fcIrqInhibit := by
  induction n with
  | zero => rfl
  | succ n ih => rw [apuSteps_succ, step_fcIrqInhibit, ih]

theorem frameEnd_apuSteps (n : Nat) {a : Apu} (hmode : a.fcMode = false) : frameEnd (apuSteps n a) = 14915 := by
  rw [frameEnd, apuSteps_fcMode, hmode, if_neg Bool.false_ne_true]

/-- Before the end of the frame the position counts the steps and the flag stays clear. -/
theorem apuSteps_before_end {a : Apu} (hpos : a.fcPos = 0) (hirq : a.frameIrq = false) (hmode : a.fcMode = false)
    {k : Nat} (hk : k < 14915) : (apuSteps k a).frameIrq = false ∧ (apuSteps k a).fcPos = k := by
  induction k with
  | zero => exact ⟨hirq, hpos⟩
  | succ k ih =>
    obtain ⟨hirq', hpos'⟩ := ih (by omega)
    have hend : ¬ k + 1 = 14915 := by omega
    rw [apuSteps_succ, step_frameIrq, step_fcPos, hirq', hpos', frameEnd_apuSteps k hmode, if_neg hend,
      decide_eq_false hend]
    exact ⟨rfl, rfl⟩

/-- The step to the end of the frame raises the flag. -/
theorem apuSteps_end {a : Apu} (hpos : a.fcPos = 0) (hirq : a.frameIrq = false) (hmode : a.fcMode = false)
    (hinhibit : a.fcIrqInhibit = false) :
    (apuSteps 14915 a).frameIrq = true ∧ (apuSteps 14915 a).fcPos = 0 := by
  have hlast := (apuSteps_before_end hpos hirq hmode (k := 14914) (by omega)).2
  rw [apuSteps_succ, step_frameIrq, step_fcPos, hlast, frameEnd_apuSteps _ hmode, apuSteps_fcMode,
    apuSteps_fcIrqInhibit, hmode, hinhibit]
  exact ⟨Bool.or_true _, rfl⟩

/-- A machine that is inhibited or in 5-step mode never raises the flag. -/
theorem apuSteps_silent {a : Apu} (hirq : a.frameIrq = false) (h : a.fcMode = true ∨ a.fcIrqInhibit = true)
    (k : Nat) : (apuSteps k a).frameIrq = false := by
  induction k with
  | zero => exact hirq
  | succ k ih =>
    rw [apuSteps_succ, step_frameIrq, ih, apuSteps_fcMode, apuSteps_fcIrqInhibit]
    rcases h with hmode | hinhibit
    · simp [hmode]
    · simp [hinhibit]

/-- Settles O54: `step_eq_clocked`, and the flag by induction over the steps. -/
theorem frameInterruptTiming : Obligations.FrameInterruptTiming := by
  unfold Obligations.FrameInterruptTiming
  refine ⟨fun s => ⟨step_eq_clocked s.apu, ?sound⟩,
    fun a hpos hirq => ⟨fun hmode hinhibit => ?rises, ?silent⟩⟩
  case sound => rw [apuStep, sample_eq_soundOf]
  case rises =>
    exact ⟨fun k hk => apuSteps_before_end hpos hirq hmode hk, apuSteps_end hpos hirq hmode hinhibit⟩
  case silent => exact apuSteps_silent hirq

/-! ### Register writes (rules R451, R460 to R463, R470 to R477, R480, R484, R486) -/

theorem Pulse.writeControl_eq (p : Pulse) (v : Byte) : p.writeControl v = pulseWritten 0 v p := by
  rw [Pulse.writeControl, Envelope.refresh_eq_recomputed]
  rfl

theorem Pulse.writeTimerLow_eq (p : Pulse) (v : Byte) : p.writeTimerLow v = pulseWritten 2 v p := by
  have htimer : p.timer.extractLsb' 8 3 ++ v = BitVec.ofNat 11 (p.timer.toNat / 256 * 256 + v.toNat) := by
    have := p.timer.isLt
    rw [append_eq_ofNat, extractLsb'_eq_ofNat_div]
    apply BitVec.eq_of_toNat_eq
    simp only [BitVec.toNat_ofNat]
    omega
  rw [Pulse.writeTimerLow, htimer]
  rfl

theorem Pulse.writeTimerHigh_eq (p : Pulse) (v : Byte) : p.writeTimerHigh v = pulseWritten 3 v p := by
  have htimer : v.extractLsb' 0 3 ++ p.timer.extractLsb' 0 8 =
      BitVec.ofNat 11 (v.toNat % 8 * 256 + p.timer.toNat % 256) := by
    rw [append_eq_ofNat, extractLsb'_eq_ofNat_div, extractLsb'_eq_ofNat_div]
    apply BitVec.eq_of_toNat_eq
    simp only [BitVec.toNat_ofNat]
    omega
  rw [Pulse.writeTimerHigh, htimer, Length.load_eq_lengthLoaded]
  rfl

theorem Triangle.writeTimerHigh_eq (t : Triangle) (v : Byte) :
    t.writeTimerHigh v = { t with timerHigh := v, length := lengthLoaded v t.length, linearReload := true } := by
  rw [Triangle.writeTimerHigh, Length.load_eq_lengthLoaded]

theorem Noise.writeControl_eq (n : Noise) (v : Byte) :
    n.writeControl v = { n with control := v, envelope := recomputed v n.envelope } := by
  rw [Noise.writeControl, Envelope.refresh_eq_recomputed]

theorem Noise.writeLength_eq (n : Noise) (v : Byte) :
    n.writeLength v =
      { n with
        lengthReg := v
        length := lengthLoaded v n.length
        envelope := { n.envelope with start := true } } := by
  rw [Noise.writeLength, Length.load_eq_lengthLoaded]
  rfl

theorem writeFrameCounter_eq (a : Apu) (v : Byte) : a.writeFrameCounter v = written 0x17 v a := by
  have hclock (b : Apu) : (if v.getLsbD 7 then b.quarterFrame.halfFrame else b) =
      clocked (v.getLsbD 7) (v.getLsbD 7) b := by
    rw [← clocked_eq]
    cases v.getLsbD 7 <;> rfl
  exact hclock _

/-- A register write is that of its register's rule. -/
theorem write_eq_written (a : Apu) (reg : Nat) (v : Byte) : a.write reg v = written reg v a := by
  unfold Apu.write
  split
  · rw [Pulse.writeControl_eq]; rfl
  · rfl
  · rw [Pulse.writeTimerLow_eq]; rfl
  · rw [Pulse.writeTimerHigh_eq]; rfl
  · rw [Pulse.writeControl_eq]; rfl
  · rfl
  · rw [Pulse.writeTimerLow_eq]; rfl
  · rw [Pulse.writeTimerHigh_eq]; rfl
  · rfl
  · rfl
  · rw [Triangle.writeTimerHigh_eq]; rfl
  · rw [Noise.writeControl_eq]; rfl
  · rfl
  · rw [Noise.writeLength_eq]; rfl
  · rfl
  · exact writeFrameCounter_eq a v
  · simp only [imp_false] at *
    unfold written
    rw [if_neg (by omega), if_neg (by omega)]
    split <;> trivial

theorem memWrite_apu (s : State) {reg : Nat} (v : Byte) (hreg : reg ≤ 0x17) (hdma : reg ≠ 0x14)
    (hpads : reg ≠ 0x16) (hdeclined : s.cart.cpuWrite (BitVec.ofNat 16 (0x4000 + reg)) v = none) :
    memWrite s (BitVec.ofNat 16 (0x4000 + reg)) v = { s with apu := written reg v s.apu } := by
  have haddr : (BitVec.ofNat 16 (0x4000 + reg)).toNat = 0x4000 + reg := by
    rw [BitVec.toNat_ofNat]
    omega
  rw [memWrite_declined hdeclined, consoleWrite, haddr, if_neg (by omega), if_neg (by omega), if_neg (by omega),
    if_neg (by omega), if_pos (by omega), Nat.add_sub_cancel_left, write_eq_written]

/-! ### The status byte (rule R485) -/

theorem Length.running_eq (l : Length) : l.running = decide (l.len ≠ 0) := by
  rw [Length.running, bne, Bool.beq_eq_decide_eq, decide_not]

/-- The status byte as a function of the flag and the running channels. -/
def statusOf (irq noise triangle pulse2 pulse1 : Bool) : Byte :=
  BitVec.ofBool false ++ BitVec.ofBool irq ++ BitVec.ofBool false ++ BitVec.ofBool false ++ BitVec.ofBool noise ++
  BitVec.ofBool triangle ++ BitVec.ofBool pulse2 ++ BitVec.ofBool pulse1

theorem status_eq_statusOf (a : Apu) :
    a.status = statusOf a.frameIrq a.noise.length.running a.triangle.length.running a.pulse2.length.running
      a.pulse1.length.running := rfl

theorem statusOf_toNat (irq noise triangle pulse2 pulse1 : Bool) :
    (statusOf irq noise triangle pulse2 pulse1).toNat =
      (if irq then 64 else 0) + (if noise then 8 else 0) + (if triangle then 4 else 0) + (if pulse2 then 2 else 0) +
        (if pulse1 then 1 else 0) := by
  revert irq noise triangle pulse2 pulse1
  decide

/-- The bits, decided for the 32 status bytes. -/
theorem statusOf_getLsbD (irq noise triangle pulse2 pulse1 : Bool) (k : Nat) :
    (statusOf irq noise triangle pulse2 pulse1).getLsbD k =
      if k = 0 then pulse1 else if k = 1 then pulse2 else if k = 2 then triangle else if k = 3 then noise
      else if k = 6 then irq else false := by
  by_cases hk : k < 8
  · revert irq noise triangle pulse2 pulse1
    interval_cases k <;> decide
  · rw [BitVec.getLsbD_of_ge _ _ (by omega), if_neg (by omega), if_neg (by omega), if_neg (by omega),
      if_neg (by omega), if_neg (by omega)]

theorem status_toNat (a : Apu) :
    a.status.toNat =
      (if a.frameIrq then 64 else 0) + (if a.noise.length.len ≠ 0 then 8 else 0) +
        (if a.triangle.length.len ≠ 0 then 4 else 0) + (if a.pulse2.length.len ≠ 0 then 2 else 0) +
        (if a.pulse1.length.len ≠ 0 then 1 else 0) := by
  rw [status_eq_statusOf, statusOf_toNat]
  simp only [Length.running_eq, decide_eq_true_eq]

/-- Settles O55: `memWrite_apu`, and the status byte and its side effect. -/
theorem frameCounterPorts : Obligations.FrameCounterPorts := by
  unfold Obligations.FrameCounterPorts
  refine fun s => ⟨fun reg v => memWrite_apu s v, fun hdeclined => ?status⟩
  case status =>
    rw [memRead_declined hdeclined]
    exact ⟨status_toNat s.apu, rfl⟩

/-! ### The length counters of disabled channels (rules R458, R480) -/

/-- A length counter is 0 unless its channel is enabled. -/
def SilentUnlessEnabled (l : Length) : Prop := l.enabled = false → l.len = 0

theorem silent_lengthAfter {l : Length} (halt : Bool) (h : SilentUnlessEnabled l) :
    SilentUnlessEnabled (lengthAfter halt l) := by
  intro hdisabled
  have hlen : l.len = 0 := h hdisabled
  cases halt
  · rw [lengthAfter, hlen]
    rfl
  · exact hlen

theorem silent_lengthLoaded {l : Length} (v : Byte) (h : SilentUnlessEnabled l) :
    SilentUnlessEnabled (lengthLoaded v l) := by
  unfold lengthLoaded
  cases l.enabled with
  | false => exact h
  | true => exact fun (hdisabled : true = false) => nomatch hdisabled

theorem silent_switched (on : Bool) (l : Length) : SilentUnlessEnabled (switched on l) := by
  cases on
  · exact fun _ => rfl
  · exact fun hdisabled => nomatch hdisabled

theorem disabledAreZero_clocked {a : Apu} (quarter half : Bool) (h : disabledAreZero a) :
    disabledAreZero (clocked quarter half a) := by
  obtain ⟨h1, h2, ht, hn⟩ := h
  cases half
  · exact ⟨h1, h2, ht, hn⟩
  · exact ⟨silent_lengthAfter _ h1, silent_lengthAfter _ h2, silent_lengthAfter _ ht, silent_lengthAfter _ hn⟩

theorem disabledAreZero_step {a : Apu} (h : disabledAreZero a) : disabledAreZero a.step := by
  rw [step_eq_clocked]
  exact disabledAreZero_clocked _ _ h

theorem silent_pulseWritten {p : Pulse} (reg : Nat) (v : Byte) (h : SilentUnlessEnabled p.length) :
    SilentUnlessEnabled (pulseWritten reg v p).length := by
  unfold pulseWritten
  split
  · exact h
  · exact h
  · exact h
  · exact silent_lengthLoaded v h

/-- A write of the channel enables, from any state. -/
theorem disabledAreZero_enables (v : Byte) (a : Apu) : disabledAreZero (written 0x15 v a) :=
  ⟨silent_switched _ _, silent_switched _ _, silent_switched _ _, silent_switched _ _⟩

theorem disabledAreZero_written {a : Apu} (reg : Nat) (v : Byte) (h : disabledAreZero a) :
    disabledAreZero (written reg v a) := by
  have ⟨h1, h2, ht, hn⟩ := h
  unfold written
  by_cases hpulse1 : reg < 4
  · rw [if_pos hpulse1]
    exact ⟨silent_pulseWritten reg v h1, h2, ht, hn⟩
  by_cases hpulse2 : reg < 8
  · rw [if_neg hpulse1, if_pos hpulse2]
    exact ⟨h1, silent_pulseWritten (reg - 4) v h2, ht, hn⟩
  rw [if_neg hpulse1, if_neg hpulse2]
  split
  · exact h
  · exact h
  · exact ⟨h1, h2, silent_lengthLoaded v ht, hn⟩
  · exact h
  · exact h
  · exact ⟨h1, h2, ht, silent_lengthLoaded v hn⟩
  · exact disabledAreZero_enables v a
  · exact disabledAreZero_clocked _ _ h
  · exact h

theorem switched_running (on : Bool) (l : Length) : ((switched on l).len != 0) = (on && l.len != 0) := by
  cases on <;> rfl

/-- Settles O51: every operation on a length counter keeps a disabled one at 0. -/
theorem disabledChannelsStaySilent : Obligations.DisabledChannelsStaySilent := by
  unfold Obligations.DisabledChannelsStaySilent
  intro a reg v
  rw [write_eq_written, write_eq_written]
  refine ⟨fun h => ⟨disabledAreZero_step h, disabledAreZero_written reg v h⟩, disabledAreZero_enables v a,
    fun k => ?_⟩
  rw [status_eq_statusOf, statusOf_getLsbD]
  simp only [← switched_running]
  rfl

end Sys2Proof.Machine
end
